-- ==== Sys2Proof/Word.lean ====
section
/-! DEFINITION. The word types of the Agnus block: 8-bit bytes (CIA registers, `peek`/`poke`), 16-bit
data words (chipset registers, Copper and Blitter words) and 32-bit pointers (00_scope.md R5, R10). -/

namespace Sys2Proof

/-- An 8-bit value, the spec's `u8`. -/
abbrev Byte := BitVec 8

/-- A 16-bit data word, the spec's `u16` (R5: "data words 16 bits"). -/
abbrev Word := BitVec 16

/-- A 32-bit pointer, the spec's `u32` (R5: "Blitter and Copper pointers 32 bits"). -/
abbrev Long := BitVec 32

/-- A chipset register address, 9 bits (30_encoding.md R107). -/
abbrev RegAddr := BitVec 9

end Sys2Proof
end

