-- ==== Sys2Proof/Machine/Bits.lean ====
section
/-! DEFINITION. Bit fields and byte order: slices and halves of words (00_scope.md R10), the big-endian order of
bytes in a word (20_memory.md R73), the halves of a 32-bit pointer register (30_encoding.md R115). -/

namespace Sys2Proof

/-- `v[15:8]`. -/
def wordHi (v : Word) : Byte := v.extractLsb' 8 8

/-- `v[7:0]`. -/
def wordLo (v : Word) : Byte := v.extractLsb' 0 8

/-- The word whose bits 15..8 are `hi` and bits 7..0 are `lo` (R73). -/
def wordOf (hi lo : Byte) : Word := hi ++ lo

/-- `p[31:16]`. -/
def longHi (p : Long) : Word := p.extractLsb' 16 16

/-- `p[15:0]`. -/
def longLo (p : Long) : Word := p.extractLsb' 0 16

/-- The 32-bit value whose bits 31..16 are `hi` and bits 15..0 are `lo`. -/
def longOf (hi lo : Word) : Long := hi ++ lo

/-- A write to a `..PTH` or `..LCH` register: bits 31..16 become `v`, bits 15..0 stay (R115). -/
def setHighHalf (p : Long) (v : Word) : Long := longOf v (longLo p)

/-- A write to a `..PTL` or `..LCL` register: bits 15..0 become `v`, bits 31..16 stay (R115). -/
def setLowHalf (p : Long) (v : Word) : Long := longOf (longHi p) v

/-- `v[15:8] <- b`. -/
def setWordHi (v : Word) (b : Byte) : Word := wordOf b (wordLo v)

/-- `v[7:0] <- b`. -/
def setWordLo (v : Word) (b : Byte) : Word := wordOf (wordHi v) b

/-- The word whose bit `i` is `f i`, for `i` in 0..15. -/
def wordOfBits (f : Nat → Bool) : Word := BitVec.ofFnLE (fun i : Fin 16 => f i.val)

/-- `v` when the condition holds, else 0: the spec's `(v if c else 0)`. -/
def gated {w : Nat} (c : Bool) (v : BitVec w) : BitVec w := if c then v else 0

/-- The register a chipset register address selects: bit 0 is ignored, `a and 0x1FE` (30_encoding.md R107). -/
def regIndex (a : RegAddr) : Nat := (a &&& 0x1FE).toNat

/-- The bytes of `n` in `k` bytes, most significant byte first (R73); bits above `8 * k` are lost. -/
def bigEndian : (k n : Nat) → List Byte
  | 0, _ => []
  | k + 1, n => BitVec.ofNat 8 (n >>> (8 * k)) :: bigEndian k n

/-- The number whose bytes, most significant first, are the list's (R73). -/
def ofBigEndian (bs : List Byte) : Nat := bs.foldl (fun n b => 256 * n + b.toNat) 0

end Sys2Proof
end

