-- ==== Sys2Proof/Config.lean ====
section
/-! DEFINITION. What an implementation of the Agnus block fixes (00_scope.md R5, R6, R9), as plain data, and
the one free value of the model: the launch contents of RAM (10_state.md R61). A `Config` is the spec's
"configuration argument"; `State.cfg` carries it and no operation writes it (R55; log 2). -/

namespace Sys2Proof

/-- The 22 owners a DMA slot can have (R14); `none` of `Option Owner` is an idle slot. -/
inductive Owner where
  | cpu | disk
  | aud0 | aud1 | aud2 | aud3
  | bpl1 | bpl2 | bpl3 | bpl4 | bpl5 | bpl6
  | spr0 | spr1 | spr2 | spr3 | spr4 | spr5 | spr6 | spr7
  | copper | blitter
  deriving DecidableEq, Repr

/-- The global priority order `G`, highest first (40_agnus.md R141). -/
def globalOrder : List Owner :=
  [.cpu, .disk, .aud0, .aud1, .aud2, .aud3, .bpl1, .bpl2, .bpl3, .bpl4, .bpl5, .bpl6,
   .spr0, .spr1, .spr2, .spr3, .spr4, .spr5, .spr6, .spr7, .copper, .blitter]

/-- One of the two identical CIAs (10_state.md section 6). -/
inductive CiaId where
  | a | b
  deriving DecidableEq, Repr

/-- The row of `SLOT_TABLE` for one position, where it differs from the table's default row. -/
structure SlotRow where
  line   : Nat
  cycle  : Nat
  owners : List Owner
  deriving DecidableEq, Repr

/-- The sizes a Fast RAM board may have (44_zorro.md R320): none, or one a Zorro II size code expresses. -/
inductive FastRamSize where
  | noBoard | k64 | k128 | k256 | k512 | m1 | m2 | m4 | m8
  deriving DecidableEq, Repr

/-- `FAST_RAM_SIZE` in bytes (R6). -/
def FastRamSize.bytes : FastRamSize → Nat
  | .noBoard => 0
  | .k64  => 0x10000
  | .k128 => 0x20000
  | .k256 => 0x40000
  | .k512 => 0x80000
  | .m1   => 0x100000
  | .m2   => 0x200000
  | .m4   => 0x400000
  | .m8   => 0x800000

/-- The Zorro II size code of a board (44_zorro.md R323); 0 stands where no board is fitted and no code is read. -/
def FastRamSize.code : FastRamSize → BitVec 3
  | .noBoard => 0
  | .m8   => 0
  | .k64  => 1
  | .k128 => 2
  | .k256 => 3
  | .k512 => 4
  | .m1   => 5
  | .m2   => 6
  | .m4   => 7

/-- One row of `ADDRESS_MAP` (20_memory.md R76, R78; log 15). A map is a list of rows; the first that matches claims
the access. -/
inductive MapRow where
  /-- chip RAM, mirrored over the addresses `lo` to `hi` -/
  | chip (lo hi : Nat)
  /-- the sixteen registers of a CIA at `base + stride * n` -/
  | cia (c : CiaId) (base stride : Nat)
  /-- the 512 bytes of the chipset registers -/
  | regs (base : Nat)
  /-- the 64 KiB autoconfig window, mapped while a board is fitted and unconfigured -/
  | autoconfig (base : Nat)
  /-- the Fast RAM window, mapped at its base while configured -/
  | fastRam
  /-- a row that a system embedding the block adds (R78): the addresses `lo` to `hi` belong to that system -/
  | outside (lo hi : Nat)
  deriving DecidableEq, Repr

/-- The default `ADDRESS_MAP`, rows 1 to 6 of R76 in their order; row 7 is "no row matches". -/
def defaultAddressMap : List MapRow :=
  [.chip 0x000000 0x1FFFFF, .cia .a 0xBFE001 0x100, .cia .b 0xBFD000 0x100, .regs 0xDFF000, .autoconfig 0xE80000, .fastRam]

/-- CIA revision option (R9); no rule reads it (43_cia.md R277). -/
inductive CiaRevision where
  | dip8520 | plcc8520
  deriving DecidableEq, Repr

/-- RTC model option (R9); no rule reads it. -/
inductive RtcModel where
  | noRtc | oki | ricoh
  deriving DecidableEq, Repr

/-- `LINE_CYCLES` (R5). -/
abbrev Config.lineCycles : Nat := 227

/-- `LINES_SHORT` (R5). -/
abbrev Config.linesShort : Nat := 312

/-- `LINES_LONG` (R5). -/
abbrev Config.linesLong : Nat := 313

/-- The parameters of R6, at the defaults the spec gives, and the options of R9. For the options the spec gives no
default: those of `ciaRevision`, `rtcModel` and `blitterAccuracy` are the model's choice (DESIGN CHOICE, log 21). -/
structure Config where
  /-- `SLOT_TABLE`: the row of every position not listed in `slotRows`; `UNIFORM` by default (R142) -/
  slotDefault : List Owner := globalOrder
  /-- `SLOT_TABLE`: the rows of single positions -/
  slotRows : List SlotRow := []
  /-- log2 of `CHIP_RAM_SIZE`, a power of two (R6, R72); 19 is 512 KiB -/
  chipRamLog2 : Nat := 19
  /-- `FAST_RAM_SIZE` (R6, R320) -/
  fastRamSize : FastRamSize := .m1
  /-- `ADDRESS_MAP` (R76) -/
  addressMap : List MapRow := defaultAddressMap
  /-- `AUTOCONFIG_ROM`: bytes of single offsets that differ from the default ROM of R323; at an odd offset or at 0x40 and
  above they stand against R324 (log 22) -/
  romRows : List Host.Cell := []
  /-- `ZORRO_PRODUCT` -/
  zorroProduct : Byte := 0x01
  /-- `ZORRO_MANUFACTURER` -/
  zorroManufacturer : Word := 0x07DB
  /-- `ZORRO_SERIAL` -/
  zorroSerial : Long := 0
  /-- `COPPER_MIN_REG_SAFE` (41_copper.md R181) -/
  copperMinRegSafe : RegAddr := 0x080
  /-- `COPPER_MIN_REG_DANGER` (R181) -/
  copperMinRegDanger : RegAddr := 0x040
  /-- `CIA_DIVIDER`, raster cycles per CIA tick (40_agnus.md R149) -/
  ciaDivider : Nat := 5
  /-- `TOD_BITS` (43_cia.md R268), the width of the TOD counters; the register accesses are log 14 -/
  todBits : Nat := 24
  /-- option without effect (R9, R277); its default is the model's choice (log 21) -/
  ciaRevision : CiaRevision := .dip8520
  /-- option without effect (R9); its default is the model's choice (log 21) -/
  rtcModel : RtcModel := .noRtc
  /-- "Blitter timing accuracy level", option without effect (R9, 42_blitter.md R246); its default is the model's
  choice (log 21) -/
  blitterAccuracy : Int := 0
  deriving DecidableEq, Repr

/-- `CHIP_RAM_SIZE` in bytes. -/
def Config.chipRamSize (cfg : Config) : Nat := 2 ^ cfg.chipRamLog2

/-- W2 and W3 of R142 for one row: where `x` and BLITTER both occur, `x` stands first. -/
def beforeBlitter (x : Owner) (row : List Owner) : Bool :=
  !(row.contains x && row.contains .blitter) || decide (row.idxOf x < row.idxOf .blitter)

/-- W1, W2 and W3 of R142 for one row of the slot table. -/
def slotRowWf (row : List Owner) : Bool :=
  decide row.Nodup && beforeBlitter .copper row && beforeBlitter .cpu row

/-- A valid configuration: the stated types of R6 and a well-formed slot table (R142). The caller rejects every
other one before it reaches the block (60_exceptions.md R373). -/
def Config.valid (cfg : Config) : Bool :=
  slotRowWf cfg.slotDefault && cfg.slotRows.all (fun r => slotRowWf r.owners)
    && decide (1 ≤ cfg.chipRamLog2) && decide (cfg.chipRamLog2 ≤ 21) && decide (0 < cfg.ciaDivider)
    && decide (0 < cfg.todBits)

/-- FREE VALUE: the byte at an address of chip RAM that nothing has written since hard reset number `epoch`
(10_state.md R61: "a model takes the contents as a launch parameter (any bytes) and must not assume zero"; log 6). -/
opaque Config.launchChip : (epoch address : Nat) → Byte

/-- FREE VALUE: the byte at an offset of Fast RAM that nothing has written since hard reset number `epoch` (R61; log 6). -/
opaque Config.launchFast : (epoch address : Nat) → Byte

end Sys2Proof
end

