-- ==== Sys2Proof/Syntax.lean ====
section
/-! DEFINITION. The instructions of the Agnus block: one constructor per row of spec/opcode_table.json
(30_encoding.md R128), with the operands its rule gives it, and the encoded form a request at the host port has. -/

namespace Sys2Proof

/-- The two masters of the chipset register bus (30_encoding.md R107). -/
inductive Master where
  | host | copper
  deriving DecidableEq, Repr

/-- The levels on the port pins of one CIA (40_agnus.md R134, `pins[c]`). -/
structure CiaPins where
  portA : Byte
  portB : Byte
  deriving DecidableEq, Repr

/-- The inputs of one `advanceOneCycle` (R134). The 19 claims of the channels outside the block stand by group:
`disk`; `aud` bit i is AUD<i>; `bpl` bit i is BPL<i+1>; `spr` bit i is SPR<i>. -/
structure CycleInputs where
  cpuClaim  : Bool
  disk      : Bool
  aud       : BitVec 4
  bpl       : BitVec 6
  spr       : BitVec 8
  todPulseA : Bool
  todPulseB : Bool
  pinsA     : CiaPins
  pinsB     : CiaPins
  deriving DecidableEq, Repr

/-- The inputs of "a caller that has nothing to say" (R134): all-false claims, no pulses, pins 0. -/
def CycleInputs.quiet : CycleInputs :=
  { cpuClaim := false, disk := false, aud := 0, bpl := 0, spr := 0, todPulseA := false, todPulseB := false,
    pinsA := { portA := 0, portB := 0 }, pinsB := { portA := 0, portB := 0 } }

/-- The operands of a WAIT or a SKIP (R103, R104): `vp` is IR1[15:8], `hp` is IR1[7:1], `bfd` is IR2[15],
`ve` is IR2[14:8], `he` is IR2[7:1]. -/
structure BeamTarget where
  vp  : BitVec 8
  hp  : BitVec 7
  bfd : Bool
  ve  : BitVec 7
  he  : BitVec 7
  deriving DecidableEq, Repr

/-- An instruction: one row of spec/opcode_table.json. A register-bus row carries the master that drives the
bus (R107) and the 16-bit data; a CIA row carries the CIA it addresses. -/
inductive Instr where
  -- Copper instructions (41_copper.md)
  /-- MOVE, R180 -/
  | move (ra : BitVec 8) (dw : Word)
  /-- WAIT, R183 -/
  | wait (t : BeamTarget)
  /-- SKIP, R186 -/
  | skip (t : BeamTarget)
  -- host operations (45_host.md)
  /-- RESET, R341 -/
  | reset (hard : Bool)
  /-- ADVANCE, R342 -/
  | advance (inputs : CycleInputs)
  /-- PEEK, R343 -/
  | peek (addr : Nat)
  /-- POKE, R344 -/
  | poke (addr : Nat) (v : Byte)
  /-- SNAPSIZE, R348 -/
  | snapsize
  /-- SNAPSAVE, R349 -/
  | snapsave (cap : Nat)
  /-- SNAPLOAD, R350 -/
  | snapload (buffer : List Byte)
  /-- REGWRITE, R345 -/
  | regwrite (a : RegAddr) (v : Word)
  /-- REGREAD, R346 -/
  | regread (a : RegAddr)
  -- chipset register reads (40_agnus.md)
  /-- DMACONR, R153 -/
  | dmaconr
  /-- VPOSR, R154 -/
  | vposr
  /-- VHPOSR, R155 -/
  | vhposr
  -- chipset register writes (40_agnus.md, 41_copper.md, 42_blitter.md)
  /-- VPOSW, R158 -/
  | vposw (src : Master) (v : Word)
  /-- VHPOSW, R158 -/
  | vhposw (src : Master) (v : Word)
  /-- COPCON, R195 -/
  | copcon (src : Master) (v : Word)
  /-- BLTCON0, R211 -/
  | bltcon0 (src : Master) (v : Word)
  /-- BLTCON1, R212 -/
  | bltcon1 (src : Master) (v : Word)
  /-- BLTAFWM, R213 -/
  | bltafwm (src : Master) (v : Word)
  /-- BLTALWM, R214 -/
  | bltalwm (src : Master) (v : Word)
  /-- BLTCPTH, R215 -/
  | bltcpth (src : Master) (v : Word)
  /-- BLTCPTL, R216 -/
  | bltcptl (src : Master) (v : Word)
  /-- BLTBPTH, R217 -/
  | bltbpth (src : Master) (v : Word)
  /-- BLTBPTL, R218 -/
  | bltbptl (src : Master) (v : Word)
  /-- BLTAPTH, R219 -/
  | bltapth (src : Master) (v : Word)
  /-- BLTAPTL, R220 -/
  | bltaptl (src : Master) (v : Word)
  /-- BLTDPTH, R221 -/
  | bltdpth (src : Master) (v : Word)
  /-- BLTDPTL, R222 -/
  | bltdptl (src : Master) (v : Word)
  /-- BLTSIZE, R230 -/
  | bltsize (src : Master) (v : Word)
  /-- BLTCMOD, R223 -/
  | bltcmod (src : Master) (v : Word)
  /-- BLTBMOD, R224 -/
  | bltbmod (src : Master) (v : Word)
  /-- BLTAMOD, R225 -/
  | bltamod (src : Master) (v : Word)
  /-- BLTDMOD, R226 -/
  | bltdmod (src : Master) (v : Word)
  /-- BLTCDAT, R227 -/
  | bltcdat (src : Master) (v : Word)
  /-- BLTBDAT, R228 -/
  | bltbdat (src : Master) (v : Word)
  /-- BLTADAT, R229 -/
  | bltadat (src : Master) (v : Word)
  /-- COP1LCH, R191 -/
  | cop1lch (src : Master) (v : Word)
  /-- COP1LCL, R192 -/
  | cop1lcl (src : Master) (v : Word)
  /-- COP2LCH, R193 -/
  | cop2lch (src : Master) (v : Word)
  /-- COP2LCL, R194 -/
  | cop2lcl (src : Master) (v : Word)
  /-- COPJMP1, R189 -/
  | copjmp1 (src : Master) (v : Word)
  /-- COPJMP2, R190 -/
  | copjmp2 (src : Master) (v : Word)
  /-- DMACON, R156 -/
  | dmacon (src : Master) (v : Word)
  /-- BPLCON0, R157 -/
  | bplcon0 (src : Master) (v : Word)
  -- CIA register reads (43_cia.md)
  /-- PRA_R, R280 -/
  | praR (c : CiaId)
  /-- PRB_R, R281 -/
  | prbR (c : CiaId)
  /-- DDRA_R, R282 -/
  | ddraR (c : CiaId)
  /-- DDRB_R, R283 -/
  | ddrbR (c : CiaId)
  /-- TALO_R, R284 -/
  | taloR (c : CiaId)
  /-- TAHI_R, R285 -/
  | tahiR (c : CiaId)
  /-- TBLO_R, R286 -/
  | tbloR (c : CiaId)
  /-- TBHI_R, R287 -/
  | tbhiR (c : CiaId)
  /-- TODLO_R, R288 -/
  | todloR (c : CiaId)
  /-- TODMID_R, R289 -/
  | todmidR (c : CiaId)
  /-- TODHI_R, R290 -/
  | todhiR (c : CiaId)
  /-- REGB_R, R291 -/
  | regbR (c : CiaId)
  /-- SDR_R, R292 -/
  | sdrR (c : CiaId)
  /-- ICR_R, R293 -/
  | icrR (c : CiaId)
  /-- CRA_R, R294 -/
  | craR (c : CiaId)
  /-- CRB_R, R295 -/
  | crbR (c : CiaId)
  -- CIA register writes (43_cia.md)
  /-- PRA_W, R296 -/
  | praW (c : CiaId) (v : Byte)
  /-- PRB_W, R297 -/
  | prbW (c : CiaId) (v : Byte)
  /-- DDRA_W, R298 -/
  | ddraW (c : CiaId) (v : Byte)
  /-- DDRB_W, R299 -/
  | ddrbW (c : CiaId) (v : Byte)
  /-- TALO_W, R300 -/
  | taloW (c : CiaId) (v : Byte)
  /-- TAHI_W, R301 -/
  | tahiW (c : CiaId) (v : Byte)
  /-- TBLO_W, R302 -/
  | tbloW (c : CiaId) (v : Byte)
  /-- TBHI_W, R303 -/
  | tbhiW (c : CiaId) (v : Byte)
  /-- TODLO_W, R304 -/
  | todloW (c : CiaId) (v : Byte)
  /-- TODMID_W, R305 -/
  | todmidW (c : CiaId) (v : Byte)
  /-- TODHI_W, R306 -/
  | todhiW (c : CiaId) (v : Byte)
  /-- REGB_W, R307 -/
  | regbW (c : CiaId) (v : Byte)
  /-- SDR_W, R308 -/
  | sdrW (c : CiaId) (v : Byte)
  /-- IMR_W, R309 -/
  | imrW (c : CiaId) (v : Byte)
  /-- CRA_W, R310 -/
  | craW (c : CiaId) (v : Byte)
  /-- CRB_W, R311 -/
  | crbW (c : CiaId) (v : Byte)
  -- autoconfig accesses (44_zorro.md)
  /-- AUTOCONF_READ, R322 -/
  | autoconfRead (off : BitVec 16)
  /-- AUTOCONF_BASE_HI, R326 -/
  | autoconfBaseHi (v : Byte)
  /-- AUTOCONF_BASE_LO, R327 -/
  | autoconfBaseLo (v : Byte)
  /-- AUTOCONF_SHUTUP, R328 -/
  | autoconfShutup (v : Byte)
  deriving DecidableEq, Repr

/-- Which of the encoded things of R100 a word is, as the column "format" of spec/opcode_table.json names them. -/
inductive Format where
  | copper | host | regr | regw | ciar | ciaw | zorror | zorrow
  deriving DecidableEq, Repr

/-- An encoded operation: what kind of thing it is and its bytes (log 3). -/
structure Encoded where
  format : Format
  bytes  : List Byte
  deriving DecidableEq, Repr

/-- Why an encoded operation is rejected. -/
inductive DecodeError where
  /-- fewer bytes than the operation has -/
  | truncated
  /-- host operation codes 9 to 15 (R123, R124) -/
  | reservedHostOp
  /-- an address with no row of this format in spec/opcode_table.json -/
  | noSuchRow
  deriving DecidableEq, Repr

/-- True for what only the Copper drives, and only in a slot it was granted (41_copper.md R170): its three
instructions, and a register write whose master is the Copper. Everything else is the host's. -/
def Instr.byCopper : Instr → Bool
  | .move _ _ | .wait _ | .skip _ => true
  | .vposw src _ | .vhposw src _ | .copcon src _ | .bltcon0 src _
  | .bltcon1 src _ | .bltafwm src _ | .bltalwm src _ | .bltcpth src _
  | .bltcptl src _ | .bltbpth src _ | .bltbptl src _ | .bltapth src _
  | .bltaptl src _ | .bltdpth src _ | .bltdptl src _ | .bltsize src _
  | .bltcmod src _ | .bltbmod src _ | .bltamod src _ | .bltdmod src _
  | .bltcdat src _ | .bltbdat src _ | .bltadat src _ | .cop1lch src _
  | .cop1lcl src _ | .cop2lch src _ | .cop2lcl src _ | .copjmp1 src _
  | .copjmp2 src _ | .dmacon src _ | .bplcon0 src _ => src == .copper
  | _ => false

end Sys2Proof
end

