-- ==== Sys2Proof/WellFormed.lean ====
section
/-! DEFINITION. When an instruction is well-formed: every operand fits the bits its encoding gives it. Operands
of a fixed width are well-formed by their type; the unbounded ones (a host address, a buffer capacity) are
checked here against the widths of log 3. -/

namespace Sys2Proof

/-- The number of bits a request at the host port has for a PEEK or POKE address (log 3); the operation uses 24 (R79). -/
abbrev addrBits : Nat := 32

/-- The number of bits a request at the host port has for the capacity of a SNAPSAVE buffer (log 3). -/
abbrev capBits : Nat := 64

/-- Every operand of the instruction fits its encoding. -/
def Instr.wellFormed : Instr → Bool
  | .peek addr => decide (addr < 2 ^ addrBits)
  | .poke addr _ => decide (addr < 2 ^ addrBits)
  | .snapsave cap => decide (cap < 2 ^ capBits)
  | _ => true

end Sys2Proof
end

