-- ==== Sys2Proof/Decode.lean ====
section
/-! DEFINITION. Decoding and encoding (30_encoding.md R100 to R124): a Copper instruction's two words, the host
operation codes, the chipset register addresses, the CIA register numbers, the autoconfig write offsets. The
decoder is total on any bytes and rejects by name. The layout of the operand bytes of a request is the model's
(log 3); the code, address, number or offset in its first bytes is the table's. -/

namespace Sys2Proof

/-! ## The Copper's words (R101 to R106) -/

/-- The operands of a WAIT or SKIP in its two words (R103, R104). -/
def beamTargetOf (ir1 ir2 : Word) : BeamTarget :=
  { vp := ir1.extractLsb' 8 8, hp := ir1.extractLsb' 1 7, bfd := ir2.getLsbD 15,
    ve := ir2.extractLsb' 8 7, he := ir2.extractLsb' 1 7 }

/-- The Copper's decoder, total and unambiguous (R105): IR1[0] = 0 is MOVE; else IR2[0] tells WAIT from SKIP. -/
def decodeCopper (ir1 ir2 : Word) : Instr :=
  if ir1.getLsbD 0 = false then .move (ir1.extractLsb' 1 8) ir2
  else if ir2.getLsbD 0 = false then .wait (beamTargetOf ir1 ir2)
  else .skip (beamTargetOf ir1 ir2)

/-- IR1 of a MOVE (R102); the unused bits 15..9 are 0. -/
def moveIr1 (ra : BitVec 8) : Word := (0#7 ++ ra : BitVec 15) ++ 0#1

/-- IR1 of a WAIT or SKIP (R103). -/
def targetIr1 (t : BeamTarget) : Word := (t.vp ++ t.hp : BitVec 15) ++ 1#1

/-- IR2 of a WAIT (`kind = 0`) or a SKIP (`kind = 1`) (R103, R104). -/
def targetIr2 (t : BeamTarget) (kind : BitVec 1) : Word :=
  ((BitVec.ofBool t.bfd ++ t.ve : BitVec 8) ++ t.he : BitVec 15) ++ kind

/-- The four bytes of a Copper instruction in chip RAM: IR1 then IR2, each big-endian (R101, 20_memory.md R73). -/
def copperBytes (ir1 ir2 : Word) : List Byte := [wordHi ir1, wordLo ir1, wordHi ir2, wordLo ir2]

/-! ## The rows of the register files -/

/-- The chipset register reads of R110. -/
def regrRow (r : Nat) : Option Instr :=
  match r with
  | 0x002 => some .dmaconr
  | 0x004 => some .vposr
  | 0x006 => some .vhposr
  | _ => none

/-- The chipset register writes of R110. -/
def regwRow (r : Nat) (src : Master) (v : Word) : Option Instr :=
  match r with
  | 0x02A => some (.vposw src v)
  | 0x02C => some (.vhposw src v)
  | 0x02E => some (.copcon src v)
  | 0x040 => some (.bltcon0 src v)
  | 0x042 => some (.bltcon1 src v)
  | 0x044 => some (.bltafwm src v)
  | 0x046 => some (.bltalwm src v)
  | 0x048 => some (.bltcpth src v)
  | 0x04A => some (.bltcptl src v)
  | 0x04C => some (.bltbpth src v)
  | 0x04E => some (.bltbptl src v)
  | 0x050 => some (.bltapth src v)
  | 0x052 => some (.bltaptl src v)
  | 0x054 => some (.bltdpth src v)
  | 0x056 => some (.bltdptl src v)
  | 0x058 => some (.bltsize src v)
  | 0x060 => some (.bltcmod src v)
  | 0x062 => some (.bltbmod src v)
  | 0x064 => some (.bltamod src v)
  | 0x066 => some (.bltdmod src v)
  | 0x070 => some (.bltcdat src v)
  | 0x072 => some (.bltbdat src v)
  | 0x074 => some (.bltadat src v)
  | 0x080 => some (.cop1lch src v)
  | 0x082 => some (.cop1lcl src v)
  | 0x084 => some (.cop2lch src v)
  | 0x086 => some (.cop2lcl src v)
  | 0x088 => some (.copjmp1 src v)
  | 0x08A => some (.copjmp2 src v)
  | 0x096 => some (.dmacon src v)
  | 0x100 => some (.bplcon0 src v)
  | _ => none

/-- The sixteen CIA register reads of R118. -/
def ciarRow (n : Nat) (c : CiaId) : Option Instr :=
  match n with
  | 0x0 => some (.praR c)
  | 0x1 => some (.prbR c)
  | 0x2 => some (.ddraR c)
  | 0x3 => some (.ddrbR c)
  | 0x4 => some (.taloR c)
  | 0x5 => some (.tahiR c)
  | 0x6 => some (.tbloR c)
  | 0x7 => some (.tbhiR c)
  | 0x8 => some (.todloR c)
  | 0x9 => some (.todmidR c)
  | 0xA => some (.todhiR c)
  | 0xB => some (.regbR c)
  | 0xC => some (.sdrR c)
  | 0xD => some (.icrR c)
  | 0xE => some (.craR c)
  | 0xF => some (.crbR c)
  | _ => none

/-- The sixteen CIA register writes of R118. -/
def ciawRow (n : Nat) (c : CiaId) (v : Byte) : Option Instr :=
  match n with
  | 0x0 => some (.praW c v)
  | 0x1 => some (.prbW c v)
  | 0x2 => some (.ddraW c v)
  | 0x3 => some (.ddrbW c v)
  | 0x4 => some (.taloW c v)
  | 0x5 => some (.tahiW c v)
  | 0x6 => some (.tbloW c v)
  | 0x7 => some (.tbhiW c v)
  | 0x8 => some (.todloW c v)
  | 0x9 => some (.todmidW c v)
  | 0xA => some (.todhiW c v)
  | 0xB => some (.regbW c v)
  | 0xC => some (.sdrW c v)
  | 0xD => some (.imrW c v)
  | 0xE => some (.craW c v)
  | 0xF => some (.crbW c v)
  | _ => none

/-- The three autoconfig write offsets of R122. -/
def zorrowRow (off : Nat) (v : Byte) : Option Instr :=
  match off with
  | 0x48 => some (.autoconfBaseHi v)
  | 0x4A => some (.autoconfBaseLo v)
  | 0x4C => some (.autoconfShutup v)
  | _ => none

/-! ## The operands of a request (log 3) -/

/-- The byte that names a CIA: 0 is CIA A, 1 is CIA B. -/
def ciaByte : CiaId → Byte
  | .a => 0
  | .b => 1

/-- The CIA a byte names. -/
def ciaOfByte (b : Byte) : CiaId := if b.getLsbD 0 then .b else .a

/-- The byte that names a bus master: 0 is the host, 1 is the Copper. -/
def masterByte : Master → Byte
  | .host => 0
  | .copper => 1

/-- The bus master a byte names. -/
def masterOfByte (b : Byte) : Master := if b.getLsbD 0 then .copper else .host

/-- The chipset register address in two bytes, reduced to 9 bits (R107). -/
def regAddrOf (hi lo : Byte) : RegAddr := (wordOf hi lo).extractLsb' 0 9

/-- The two bytes of a chipset register address. -/
def regAddrBytes (a : RegAddr) : List Byte := bigEndian 2 a.toNat

/-- The seven operand bytes of an ADVANCE: the claim and pulse bits, then the four port pin bytes. -/
def inputBytes (i : CycleInputs) : List Byte :=
  [ (((i.aud ++ BitVec.ofBool i.disk : BitVec 5) ++ BitVec.ofBool i.todPulseB : BitVec 6)
      ++ BitVec.ofBool i.todPulseA : BitVec 7) ++ BitVec.ofBool i.cpuClaim,
    0#2 ++ i.bpl, i.spr, i.pinsA.portA, i.pinsA.portB, i.pinsB.portA, i.pinsB.portB ]

/-- The inputs in the seven operand bytes of an ADVANCE. -/
def inputsOf (b0 b1 b2 pAA pAB pBA pBB : Byte) : CycleInputs :=
  { cpuClaim := b0.getLsbD 0, todPulseA := b0.getLsbD 1, todPulseB := b0.getLsbD 2, disk := b0.getLsbD 3,
    aud := b0.extractLsb' 4 4, bpl := b1.extractLsb' 0 6, spr := b2,
    pinsA := { portA := pAA, portB := pAB }, pinsB := { portA := pBA, portB := pBB } }

/-! ## The decoder -/

/-- A row, or the rejection of an address that has none. -/
def rowOr (row : Option Instr) : Except DecodeError Instr :=
  match row with
  | some i => .ok i
  | none => .error .noSuchRow

/-- A host operation: its 4-bit code (R123) and its operand bytes. Codes 9 to 15 are reserved (R124). -/
def decodeHost (code : Nat) (ops : List Byte) : Except DecodeError Instr :=
  match code with
  | 0 => match ops with
    | h :: _ => .ok (.reset (h.getLsbD 0))
    | _ => .error .truncated
  | 1 => match ops with
    | b0 :: b1 :: b2 :: p0 :: p1 :: p2 :: p3 :: _ => .ok (.advance (inputsOf b0 b1 b2 p0 p1 p2 p3))
    | _ => .error .truncated
  | 2 => match ops with
    | a3 :: a2 :: a1 :: a0 :: _ => .ok (.peek (ofBigEndian [a3, a2, a1, a0]))
    | _ => .error .truncated
  | 3 => match ops with
    | a3 :: a2 :: a1 :: a0 :: v :: _ => .ok (.poke (ofBigEndian [a3, a2, a1, a0]) v)
    | _ => .error .truncated
  | 4 => .ok .snapsize
  | 5 => match ops with
    | c7 :: c6 :: c5 :: c4 :: c3 :: c2 :: c1 :: c0 :: _ => .ok (.snapsave (ofBigEndian [c7, c6, c5, c4, c3, c2, c1, c0]))
    | _ => .error .truncated
  | 6 => .ok (.snapload ops)
  | 7 => match ops with
    | a1 :: a0 :: v1 :: v0 :: _ => .ok (.regwrite (regAddrOf a1 a0) (wordOf v1 v0))
    | _ => .error .truncated
  | 8 => match ops with
    | a1 :: a0 :: _ => .ok (.regread (regAddrOf a1 a0))
    | _ => .error .truncated
  | _ => .error .reservedHostOp

/-- The decoder: an instruction, or a rejection by name, for any bytes of any format. -/
def decode (e : Encoded) : Except DecodeError Instr :=
  match e.format with
  | .copper => match e.bytes with
    | b0 :: b1 :: b2 :: b3 :: _ => .ok (decodeCopper (wordOf b0 b1) (wordOf b2 b3))
    | _ => .error .truncated
  | .host => match e.bytes with
    | code :: ops => decodeHost (code.extractLsb' 0 4).toNat ops
    | _ => .error .truncated
  | .regr => match e.bytes with
    | a1 :: a0 :: _ => rowOr (regrRow (regIndex (regAddrOf a1 a0)))
    | _ => .error .truncated
  | .regw => match e.bytes with
    | a1 :: a0 :: v1 :: v0 :: m :: _ => rowOr (regwRow (regIndex (regAddrOf a1 a0)) (masterOfByte m) (wordOf v1 v0))
    | _ => .error .truncated
  | .ciar => match e.bytes with
    | n :: c :: _ => rowOr (ciarRow (n.extractLsb' 0 4).toNat (ciaOfByte c))
    | _ => .error .truncated
  | .ciaw => match e.bytes with
    | n :: c :: v :: _ => rowOr (ciawRow (n.extractLsb' 0 4).toNat (ciaOfByte c) v)
    | _ => .error .truncated
  | .zorror => match e.bytes with
    | o1 :: o0 :: _ => .ok (.autoconfRead (wordOf o1 o0))
    | _ => .error .truncated
  | .zorrow => match e.bytes with
    | o1 :: o0 :: v :: _ => rowOr (zorrowRow (wordOf o1 o0).toNat v)
    | _ => .error .truncated

/-! ## The encoder -/

/-- A host request: the code (R123), then the operand bytes. -/
def hostWords (code : Byte) (ops : List Byte) : Encoded := { format := .host, bytes := code :: ops }

/-- A read of a chipset register. -/
def regrWords (a : RegAddr) : Encoded := { format := .regr, bytes := regAddrBytes a }

/-- A write of a chipset register: address, data, master. -/
def regwWords (a : RegAddr) (src : Master) (v : Word) : Encoded :=
  { format := .regw, bytes := regAddrBytes a ++ [wordHi v, wordLo v, masterByte src] }

/-- A read of a CIA register: number, CIA. -/
def ciarWords (n : Byte) (c : CiaId) : Encoded := { format := .ciar, bytes := [n, ciaByte c] }

/-- A write of a CIA register: number, CIA, data. -/
def ciawWords (n : Byte) (c : CiaId) (v : Byte) : Encoded := { format := .ciaw, bytes := [n, ciaByte c, v] }

/-- An autoconfig write: offset, data. -/
def zorrowWords (off : Word) (v : Byte) : Encoded := { format := .zorrow, bytes := [wordHi off, wordLo off, v] }

/-- The encoder, from the same tables. -/
def encode (i : Instr) : Encoded :=
  match i with
  | .move ra dw => { format := .copper, bytes := copperBytes (moveIr1 ra) dw }
  | .wait t => { format := .copper, bytes := copperBytes (targetIr1 t) (targetIr2 t 0) }
  | .skip t => { format := .copper, bytes := copperBytes (targetIr1 t) (targetIr2 t 1) }
  | .reset hard => hostWords 0 [(BitVec.ofBool hard).setWidth 8]
  | .advance inputs => hostWords 1 (inputBytes inputs)
  | .peek addr => hostWords 2 (bigEndian 4 addr)
  | .poke addr v => hostWords 3 (bigEndian 4 addr ++ [v])
  | .snapsize => hostWords 4 []
  | .snapsave cap => hostWords 5 (bigEndian 8 cap)
  | .snapload buffer => hostWords 6 buffer
  | .regwrite a v => hostWords 7 (regAddrBytes a ++ [wordHi v, wordLo v])
  | .regread a => hostWords 8 (regAddrBytes a)
  | .dmaconr => regrWords 0x002
  | .vposr => regrWords 0x004
  | .vhposr => regrWords 0x006
  | .vposw src v => regwWords 0x02A src v
  | .vhposw src v => regwWords 0x02C src v
  | .copcon src v => regwWords 0x02E src v
  | .bltcon0 src v => regwWords 0x040 src v
  | .bltcon1 src v => regwWords 0x042 src v
  | .bltafwm src v => regwWords 0x044 src v
  | .bltalwm src v => regwWords 0x046 src v
  | .bltcpth src v => regwWords 0x048 src v
  | .bltcptl src v => regwWords 0x04A src v
  | .bltbpth src v => regwWords 0x04C src v
  | .bltbptl src v => regwWords 0x04E src v
  | .bltapth src v => regwWords 0x050 src v
  | .bltaptl src v => regwWords 0x052 src v
  | .bltdpth src v => regwWords 0x054 src v
  | .bltdptl src v => regwWords 0x056 src v
  | .bltsize src v => regwWords 0x058 src v
  | .bltcmod src v => regwWords 0x060 src v
  | .bltbmod src v => regwWords 0x062 src v
  | .bltamod src v => regwWords 0x064 src v
  | .bltdmod src v => regwWords 0x066 src v
  | .bltcdat src v => regwWords 0x070 src v
  | .bltbdat src v => regwWords 0x072 src v
  | .bltadat src v => regwWords 0x074 src v
  | .cop1lch src v => regwWords 0x080 src v
  | .cop1lcl src v => regwWords 0x082 src v
  | .cop2lch src v => regwWords 0x084 src v
  | .cop2lcl src v => regwWords 0x086 src v
  | .copjmp1 src v => regwWords 0x088 src v
  | .copjmp2 src v => regwWords 0x08A src v
  | .dmacon src v => regwWords 0x096 src v
  | .bplcon0 src v => regwWords 0x100 src v
  | .praR c => ciarWords 0x0 c
  | .prbR c => ciarWords 0x1 c
  | .ddraR c => ciarWords 0x2 c
  | .ddrbR c => ciarWords 0x3 c
  | .taloR c => ciarWords 0x4 c
  | .tahiR c => ciarWords 0x5 c
  | .tbloR c => ciarWords 0x6 c
  | .tbhiR c => ciarWords 0x7 c
  | .todloR c => ciarWords 0x8 c
  | .todmidR c => ciarWords 0x9 c
  | .todhiR c => ciarWords 0xA c
  | .regbR c => ciarWords 0xB c
  | .sdrR c => ciarWords 0xC c
  | .icrR c => ciarWords 0xD c
  | .craR c => ciarWords 0xE c
  | .crbR c => ciarWords 0xF c
  | .praW c v => ciawWords 0x0 c v
  | .prbW c v => ciawWords 0x1 c v
  | .ddraW c v => ciawWords 0x2 c v
  | .ddrbW c v => ciawWords 0x3 c v
  | .taloW c v => ciawWords 0x4 c v
  | .tahiW c v => ciawWords 0x5 c v
  | .tbloW c v => ciawWords 0x6 c v
  | .tbhiW c v => ciawWords 0x7 c v
  | .todloW c v => ciawWords 0x8 c v
  | .todmidW c v => ciawWords 0x9 c v
  | .todhiW c v => ciawWords 0xA c v
  | .regbW c v => ciawWords 0xB c v
  | .sdrW c v => ciawWords 0xC c v
  | .imrW c v => ciawWords 0xD c v
  | .craW c v => ciawWords 0xE c v
  | .crbW c v => ciawWords 0xF c v
  | .autoconfRead off => { format := .zorror, bytes := [wordHi off, wordLo off] }
  | .autoconfBaseHi v => zorrowWords 0x48 v
  | .autoconfBaseLo v => zorrowWords 0x4A v
  | .autoconfShutup v => zorrowWords 0x4C v

/-! ## The opcode table's words (log 4) -/

/-- The formats whose rows spec/opcode_table.json gives `nbits` bits in whole bytes, in the table's order: a
row of mask 0 has no bits; host codes and CIA numbers have 4; register addresses 9; autoconfig offsets 16; the
Copper's words 32. -/
def formatsOfWidth (nbits : Nat) : List Format :=
  if nbits = 0 then [.zorror]
  else if nbits ≤ 8 then [.host, .ciar, .ciaw]
  else if nbits ≤ 16 then [.regr, .regw, .zorror, .zorrow]
  else if nbits ≤ 32 then [.copper]
  else []

/-- The table word `w` as a request of one format: its bytes, most significant first, then operand bytes of 0. -/
def tableEncoded (f : Format) (w : Nat) : Encoded :=
  match f with
  | .copper => { format := f, bytes := bigEndian 4 w }
  | .host | .ciar | .ciaw => { format := f, bytes := bigEndian 1 w ++ List.replicate 8 0 }
  | .regr | .regw | .zorror | .zorrow => { format := f, bytes := bigEndian 2 w ++ List.replicate 8 0 }

/-- The first of the formats in which the table word decodes, and what it decodes to. -/
def firstDecoded (fs : List Format) (w : Nat) : Option (Encoded × Instr) :=
  match fs with
  | [] => none
  | f :: rest =>
    match decode (tableEncoded f w) with
    | .ok i => some (tableEncoded f w, i)
    | .error _ => firstDecoded rest w

/-- The instruction the decoder reads from a word of spec/opcode_table.json. Rows of different formats share
words of one width (host code 2, CIA register 2), so the first format of that width that decodes is taken (log 4). -/
def decodeTableWord (nbits w : Nat) : Option Instr := (firstDecoded (formatsOfWidth nbits) w).map Prod.snd

end Sys2Proof
end

