-- ==== Sys2Proof/Machine/State.lean ====
section
/-! DEFINITION. The state of the Agnus block as plain data (10_state.md R20 to R62), the reasons a step stops,
and the state after reset (R59). -/

namespace Sys2Proof.Machine

/-- Frame record (R21). -/
structure Frame where
  sequenceNumber   : Nat
  isLongFrame      : Bool
  wasLongFramePrev : Bool
  deriving DecidableEq, Repr

/-- Agnus scheduler state (R24 to R29). -/
structure Agnus where
  interlaceEnabled : Bool
  hblank     : Bool
  hsync      : Bool
  frameStart : Bool
  dmacon     : BitVec 11
  /-- `none` is the idle slot (R27, R148) -/
  busOwner   : Option Owner
  /-- 0..CIA_DIVIDER-1 (R28) -/
  ciaPhase   : Nat
  deriving DecidableEq, Repr

/-- `activeListId` is 1 or 2 (R30). -/
inductive ListId where
  | one | two
  deriving DecidableEq, Repr

/-- Copper state (R30, R31). -/
structure Copper where
  programCounter : Long
  list1Base      : Long
  list2Base      : Long
  activeListId   : ListId
  /-- `false` restricts MOVE targets (R32; conflict C2) -/
  cdang          : Bool
  active         : Bool
  waiting        : Bool
  ir1            : Word
  lastInstructionWord : Word
  deriving DecidableEq, Repr

/-- Blitter state (R34, R36, R37). The modulos are two's complement. -/
structure Blitter where
  control0  : Word
  control1  : Word
  firstMask : Word
  lastMask  : Word
  ptrA : Long
  ptrB : Long
  ptrC : Long
  ptrD : Long
  modA : Word
  modB : Word
  modC : Word
  modD : Word
  holdA : Word
  holdB : Word
  holdC : Word
  holdD : Word
  aOld : Word
  bOld : Word
  busyFlag      : Bool
  zeroFlag      : Bool
  firstWordFlag : Bool
  lastWordFlag  : Bool
  fillCarry     : Bool
  width    : Nat
  height   : Nat
  xCounter : Nat
  yCounter : Nat
  deriving DecidableEq, Repr

/-- One 8-bit port of a CIA (R39); in `direction` a 1 bit is an output. -/
structure Port where
  port      : Byte
  register  : Byte
  direction : Byte
  deriving DecidableEq, Repr

/-- One timer of a CIA (R40, R41); bit 4 of `cr` is always 0. -/
structure Timer where
  count : Word
  latch : Word
  cr    : Byte
  toggleOutput : Bool
  pulseOutput  : Bool
  deriving DecidableEq, Repr

/-- Time-of-day counter (R45): three numbers of `TOD_BITS` bits, that is below `2 ^ cfg.todBits` (43_cia.md R268). -/
structure Tod where
  value : Nat
  latch : Nat
  alarm : Nat
  deriving DecidableEq, Repr

/-- One CIA (R39 to R47); bits 7..5 of `icr` and `imr` are always 0, `ssr` is never written. -/
structure Cia where
  portA  : Port
  portB  : Port
  timerA : Timer
  timerB : Timer
  sdr : Byte
  ssr : Byte
  icr : Byte
  imr : Byte
  irq : Bool
  tod : Tod
  todLatched : Bool
  todStopped : Bool
  deriving DecidableEq, Repr

/-- Zorro mapper (R48): `fastRamConfigState` is 0 unconfigured, 1 configured, 2 shut up. -/
structure Zorro where
  fastRamConfigState : Byte
  fastRamBaseAddress : Long
  deriving DecidableEq, Repr

/-- RAM contents: the bytes that have been written, at strictly rising addresses. A byte that is not listed has
no value here; what the machine reads there is `Config.launchChip` or `Config.launchFast` (R61; log 6). -/
abbrev Memory := List Host.Cell

/-- Kind of a host access (60_exceptions.md R370). -/
inductive AccessKind where
  | read | write
  deriving DecidableEq, Repr

/-- The events of a step (R62, R350, R370). -/
inductive Event where
  /-- a chipset register write the block forwards (30_encoding.md R111) -/
  | regWriteOut (src : Master) (addr : RegAddr) (value : Word)
  /-- a Copper MOVE the allow-list discarded (41_copper.md R182) -/
  | copperDiscard (addr : RegAddr) (value : Word)
  /-- the diagnostic UnmappedAccess (60_exceptions.md R371) -/
  | unmapped (addr : BitVec 24) (kind : AccessKind)
  /-- the diagnostic SnapshotLoadFailure (45_host.md R350) -/
  | snapshotLoadFailure
  deriving DecidableEq, Repr

/-- The result of a host operation (45_host.md R340, 30_encoding.md R123). -/
inductive Result where
  /-- the operation has no result, or reports "ok" -/
  | done
  /-- a register read for which the block drives no value: the spec's `none` (R109, 43_cia.md R291) -/
  | noValue
  | byte (v : Byte)
  | word (v : Word)
  /-- the distinguished result `unmapped` (60_exceptions.md R371) -/
  | unmapped
  /-- SNAPSIZE's integer -/
  | size (n : Nat)
  /-- SNAPSAVE's number of bytes written, and the bytes -/
  | saved (n : Nat) (buffer : List Byte)
  /-- SNAPLOAD's number of bytes consumed, 0 on failure -/
  | consumed (n : Nat)
  deriving DecidableEq, Repr

/-- The machine's state. `frame` to `fastRam` are the spec's (R20); `result` and `events` are its outputs (R62);
`cfg` carries the configuration (log 2); `requests` the host operations still to come, which are the inputs of R57 (log 1);
`epoch` counts hard resets, so that each leaves RAM with contents of its own (log 6). -/
structure State where
  frame   : Frame
  line    : BitVec 9
  cycle   : BitVec 8
  agnus   : Agnus
  cop     : Copper
  blt     : Blitter
  ciaA    : Cia
  ciaB    : Cia
  zorro   : Zorro
  chipRam : Memory
  fastRam : Memory
  result  : Result
  events  : List Event
  cfg     : Config
  requests : List Encoded
  epoch   : Nat
  deriving DecidableEq, Repr

/-- The block has no fault: it takes no traps (60_exceptions.md R380), and its diagnostics are events after which
"the next operation proceeds normally" (R371, R375). No rule and no meaning raises one (log 9). -/
inductive Fault where
  deriving DecidableEq, Repr

/-- The refusals: the complete list of 60_exceptions.md R374, operations to which the spec gives no meaning; two of the
model's for requests that are no operation; and one for addresses of an embedding system. Each is safe: nothing is
proved of what the hardware does there. -/
inductive Refusal where
  /-- raised by a write of a Blitter register while `busyFlag` (30_encoding.md R112, 70_reset_and_hazards.md R412; log 10
  for the addresses between them that have no register); safe -/
  | blitterRegisterWriteWhileBusy
  /-- raised by a write of BLTSIZE with LINE or DESC set (42_blitter.md R231); safe -/
  | blitterModeNotSpecified
  /-- raised by a write of VPOSW or VHPOSW (40_agnus.md R158); safe -/
  | rasterPositionWrite
  /-- raised by a write of CRA or CRB that selects a count source other than ticks (43_cia.md R274); safe -/
  | ciaInputModeNotSpecified
  /-- raised by a write of SDR while CRA bit 6 selects serial output (43_cia.md R308); safe -/
  | ciaSerialOutputNotSpecified
  /-- raised by a POKE into the chipset register window (45_host.md R344); safe -/
  | byteWriteToChipsetRegister
  /-- raised by host operation codes 9 to 15 (30_encoding.md R124); safe -/
  | reservedHostOp
  /-- raised by SNAPSAVE with a buffer smaller than the snapshot (45_host.md R349); safe -/
  | snapshotBufferTooSmall
  /-- raised by a PEEK or POKE of an address that a row of the embedding system claims (20_memory.md R78): the access is
  that system's, and the spec does not say what it does there (log 15); safe -/
  | accessOutsideBlock
  /-- raised by the step for a request that is no row of the opcode table, or too short (log 5); safe -/
  | malformedRequest (why : DecodeError)
  /-- raised by the step for a request only the Copper can drive (41_copper.md R170; log 5); safe -/
  | copperOperationAtPort
  /-- raised by exec's arm of an instruction that has no meaning yet; safe -/
  | notModelled (mnemonic : String)
  deriving DecidableEq, Repr

/-! ## Reset values (R59): what the document does not state resets to zero or false -/

/-- The frame record after reset: a short frame, number 0. -/
def Frame.reset : Frame := { sequenceNumber := 0, isLongFrame := false, wasLongFramePrev := false }

/-- Agnus after reset: all DMA off, nasty off, no owner, phase 0. -/
def Agnus.reset : Agnus :=
  { interlaceEnabled := false, hblank := false, hsync := false, frameStart := false, dmacon := 0, busOwner := none,
    ciaPhase := 0 }

/-- The Copper after reset: idle, restricted, list 1. -/
def Copper.reset : Copper :=
  { programCounter := 0, list1Base := 0, list2Base := 0, activeListId := .one, cdang := false, active := false,
    waiting := false, ir1 := 0, lastInstructionWord := 0 }

/-- The Blitter after reset: not busy, every register 0. -/
def Blitter.reset : Blitter :=
  { control0 := 0, control1 := 0, firstMask := 0, lastMask := 0, ptrA := 0, ptrB := 0, ptrC := 0, ptrD := 0,
    modA := 0, modB := 0, modC := 0, modD := 0, holdA := 0, holdB := 0, holdC := 0, holdD := 0, aOld := 0, bOld := 0,
    busyFlag := false, zeroFlag := false, firstWordFlag := false, lastWordFlag := false, fillCarry := false,
    width := 0, height := 0, xCounter := 0, yCounter := 0 }

/-- A port after reset: all pins inputs. -/
def Port.reset : Port := { port := 0, register := 0, direction := 0 }

/-- A timer after reset: stopped, count and latch 0. -/
def Timer.reset : Timer := { count := 0, latch := 0, cr := 0, toggleOutput := false, pulseOutput := false }

/-- A CIA after reset. -/
def Cia.reset : Cia :=
  { portA := Port.reset, portB := Port.reset, timerA := Timer.reset, timerB := Timer.reset, sdr := 0, ssr := 0,
    icr := 0, imr := 0, irq := false, tod := { value := 0, latch := 0, alarm := 0 }, todLatched := false,
    todStopped := false }

/-- The Zorro mapper after a hard reset: unconfigured. -/
def Zorro.reset : Zorro := { fastRamConfigState := 0, fastRamBaseAddress := 0 }

/-- The machine right after power-on, which is `reset(true)` (45_host.md R341): every field at its value of R59, RAM
with nothing written, no host operation pending, the default configuration. -/
def State.reset : State :=
  { frame := Frame.reset, line := 0, cycle := 0, agnus := Agnus.reset, cop := Copper.reset, blt := Blitter.reset,
    ciaA := Cia.reset, ciaB := Cia.reset, zorro := Zorro.reset, chipRam := [], fastRam := [], result := .done,
    events := [], cfg := {}, requests := [], epoch := 0 }

end Sys2Proof.Machine
end

