-- ==== Sys2Proof/Machine/Ops.lean ====
section
/-! DEFINITION. The named operations over memory, registers, events and results; raising a CIA interrupt
(`setIcr`) and the return from it (`acknowledgeIcr`). -/

namespace Sys2Proof.Machine

open Host (Outcome)

/-- What an operation answers: a next state, or a refusal. -/
abbrev Out := Outcome State Fault Refusal

/-- Go on with `f` from the state an operation answered; a fault or a refusal refuses the whole (45_host.md R342). -/
def andThen (o : Out) (f : State → Out) : Out :=
  match o with
  | .next s => f s
  | .fault r => .fault r
  | .refused r => .refused r

/-! ## Memory (20_memory.md R72 to R74, R80; log 6) -/

/-- The byte a memory lists at an address. -/
def Memory.find (m : Memory) (a : Nat) : Option Byte :=
  match m with
  | [] => none
  | (b, v) :: rest => if a = b then some v else Memory.find rest a

/-- The memory with the byte `v` at address `a`; addresses stay strictly rising. -/
def Memory.insert (m : Memory) (a : Nat) (v : Byte) : Memory :=
  match m with
  | [] => [(a, v)]
  | (b, w) :: rest =>
    if a < b then (a, v) :: (b, w) :: rest
    else if a = b then (a, v) :: rest
    else (b, w) :: Memory.insert rest a v

/-- The canonical form: addresses strictly rise. (No byte is listed that an unlisted address would also give: an
unlisted address has no value here.) -/
def Memory.wf (m : Memory) : Bool :=
  match m with
  | [] => true
  | (_, _) :: [] => true
  | (a, _) :: (b, w) :: rest => decide (a < b) && Memory.wf ((b, w) :: rest)

/-- Every listed address lies below `n`. -/
def Memory.below (m : Memory) (n : Nat) : Bool := m.all (fun c => decide (c.1 < n))

/-- `s.chipRam[a]`, `MemRead(a, 1)` (R80): the byte written there, or its launch value (10_state.md R61). -/
def chipByte (s : State) (a : Nat) : Byte := (s.chipRam.find a).getD (Config.launchChip s.epoch a)

/-- `s.chipRam[a] <- v`, `MemWrite(a, 1, v)` (R80). -/
def setChipByte (s : State) (a : Nat) (v : Byte) : State := { s with chipRam := s.chipRam.insert a v }

/-- `s.fastRam[off]` (44_zorro.md R330), or its launch value (10_state.md R61). -/
def fastByte (s : State) (off : Nat) : Byte := (s.fastRam.find off).getD (Config.launchFast s.epoch off)

/-- `s.fastRam[off] <- v` (44_zorro.md R330). -/
def setFastByte (s : State) (off : Nat) (v : Byte) : State := { s with fastRam := s.fastRam.insert off v }

/-- `chipAddr(p) = p and (CHIP_RAM_SIZE - 1) and not 1` (R74): the pointer modulo the size, rounded down to even. -/
def chipAddr (cfg : Config) (p : Long) : Nat := p.toNat % cfg.chipRamSize / 2 * 2

/-- `ChipRead16(p)` (R74), big-endian (R73). -/
def chipRead16 (s : State) (p : Long) : Word :=
  wordOf (chipByte s (chipAddr s.cfg p)) (chipByte s (chipAddr s.cfg p + 1))

/-- `ChipWrite16(p, v)` (R74), big-endian (R73). -/
def chipWrite16 (s : State) (p : Long) (v : Word) : State :=
  setChipByte (setChipByte s (chipAddr s.cfg p) (wordHi v)) (chipAddr s.cfg p + 1) (wordLo v)

/-! ## Events and results (10_state.md R62, 45_host.md R340) -/

/-- `emit(e)` (00_scope.md R11). -/
def emit (s : State) (e : Event) : State := { s with events := s.events ++ [e] }

/-- `result <- r`. -/
def setResult (s : State) (r : Result) : State := { s with result := r }

/-- `raise UnmappedAccess(a, kind)`: the event is emitted, the result is `unmapped`, nothing else changes
(60_exceptions.md R371). -/
def raiseUnmapped (s : State) (a : BitVec 24) (kind : AccessKind) : State :=
  setResult (emit s (.unmapped a kind)) .unmapped

/-- The start of every host operation: it leaves the pending list, the event list is emptied (R340). -/
def startOperation (s : State) (rest : List Encoded) : State :=
  { s with requests := rest, events := [], result := .done }

/-! ## The two CIAs -/

/-- `s.cia[c]`. -/
def getCia (s : State) (c : CiaId) : Cia :=
  match c with
  | .a => s.ciaA
  | .b => s.ciaB

/-- `s.cia[c] <- x`. -/
def setCia (s : State) (c : CiaId) (x : Cia) : State :=
  match c with
  | .a => { s with ciaA := x }
  | .b => { s with ciaB := x }

/-- An access that only changes `cia[c]`. -/
def updateCia (s : State) (c : CiaId) (f : Cia → Cia) : State := setCia s c (f (getCia s c))

/-! ## Raising an interrupt and the return from it -/

/-- The source bits of ICR and IMR (R44): 0 timer A, 1 timer B, 2 TOD alarm. Bits 3 and 4 are set by no rule (R275). -/
inductive IcrSource where
  | timerA | timerB | alarm
  deriving DecidableEq, Repr

/-- The mask of a source bit (30_encoding.md R120). -/
def IcrSource.mask : IcrSource → Byte
  | .timerA => 0x01
  | .timerB => 0x02
  | .alarm => 0x04

/-- `setIcr(c, b)` (43_cia.md R266): the source becomes pending; the line rises if IMR lets it through. The level
stays until the ICR is read (R267). -/
def setIcr (x : Cia) (b : IcrSource) : Cia :=
  { x with icr := x.icr ||| b.mask, irq := x.irq || (x.imr &&& b.mask != 0) }

/-- The byte an ICR read gives (R293): bit 7 is the line, bits 4..0 the pending sources. -/
def icrReadByte (x : Cia) : Byte := gated x.irq 0x80 ||| (x.icr &&& 0x1F)

/-- The acknowledge of an ICR read (R293): the pending sources and the line are cleared together (R377, R381). -/
def acknowledgeIcr (x : Cia) : Cia := { x with icr := 0, irq := false }

end Sys2Proof.Machine
end

