-- ==== Sys2Proof/Machine/Operands.lean ====
section
/-! DEFINITION. Operands: the views of the control registers (10_state.md R26, R32, R35, R41), the operands of
WAIT and SKIP (30_encoding.md R106), the region a CPU-space address selects (20_memory.md R76), and the row of the
slot table for a position (40_agnus.md R142). -/

namespace Sys2Proof.Machine

/-! ## DMACON (10_state.md R26) -/

/-- BLTPRI, "blitter-nasty". -/
def nasty (s : State) : Bool := s.agnus.dmacon.getLsbD 10

/-- `cop.enabled`: the master enable and COPEN (R32). -/
def copperEnabled (s : State) : Bool := s.agnus.dmacon.getLsbD 9 && s.agnus.dmacon.getLsbD 7

/-- The master enable and BLTEN (42_blitter.md R210). -/
def blitterEnabled (s : State) : Bool := s.agnus.dmacon.getLsbD 9 && s.agnus.dmacon.getLsbD 6

/-! ## The Blitter's control registers (10_state.md R35) -/

/-- `ash = control0[15:12]`. -/
def ash (b : Blitter) : Nat := (b.control0.extractLsb' 12 4).toNat

/-- `bsh = control1[15:12]`. -/
def bsh (b : Blitter) : Nat := (b.control1.extractLsb' 12 4).toNat

/-- `minterm = control0[7:0]`. -/
def minterm (b : Blitter) : Byte := b.control0.extractLsb' 0 8

/-- `useA = control0[11]`. -/
def useA (b : Blitter) : Bool := b.control0.getLsbD 11

/-- `useB = control0[10]`. -/
def useB (b : Blitter) : Bool := b.control0.getLsbD 10

/-- `useC = control0[9]`. -/
def useC (b : Blitter) : Bool := b.control0.getLsbD 9

/-- `storeToDestEnable = control0[8]`. -/
def storeToDest (b : Blitter) : Bool := b.control0.getLsbD 8

/-- `fillExclusive = control1[4]`. -/
def fillExclusive (b : Blitter) : Bool := b.control1.getLsbD 4

/-- `fillEnable = control1[3] or control1[4]`. -/
def fillEnable (b : Blitter) : Bool := b.control1.getLsbD 3 || b.control1.getLsbD 4

/-- `fillCarryIn = control1[2]`. -/
def fillCarryIn (b : Blitter) : Bool := b.control1.getLsbD 2

/-- LINE or DESC is set (30_encoding.md R114). -/
def lineOrDesc (b : Blitter) : Bool := b.control1.getLsbD 0 || b.control1.getLsbD 1

/-- A BLTSIZE height field: 0 means 1024 (R116). -/
def sizeHeight (v : Word) : Nat := if (v.extractLsb' 6 10).toNat = 0 then 1024 else (v.extractLsb' 6 10).toNat

/-- A BLTSIZE width field: 0 means 64 (R116). -/
def sizeWidth (v : Word) : Nat := if (v.extractLsb' 0 6).toNat = 0 then 64 else (v.extractLsb' 0 6).toNat

/-! ## A CIA timer's control byte (10_state.md R41) -/

/-- `running = cr[0]`. -/
def Timer.running (t : Timer) : Bool := t.cr.getLsbD 0

/-- `pbOutputEnabled = cr[1]`. -/
def Timer.pbOutputEnabled (t : Timer) : Bool := t.cr.getLsbD 1

/-- `outMode = cr[2]`: true is toggle, false is pulse. -/
def Timer.outMode (t : Timer) : Bool := t.cr.getLsbD 2

/-- `oneShotMode = cr[3]`. -/
def Timer.oneShotMode (t : Timer) : Bool := t.cr.getLsbD 3

/-- `out(T)`: what the timer puts on its port B pin (43_cia.md R273). -/
def Timer.out (t : Timer) : Bool := if t.outMode then t.toggleOutput else t.pulseOutput

/-- CRB bit 7: writes of the TOD registers go to the alarm (30_encoding.md R121). -/
def alarmSelected (x : Cia) : Bool := x.timerB.cr.getLsbD 7

/-- `todInterruptEnabled`, the view of R47. -/
def todInterruptEnabled (x : Cia) : Bool := x.imr.getLsbD 2

/-! ## WAIT and SKIP (30_encoding.md R106, 41_copper.md R185) -/

/-- `hTarget = IR1[7:1] ++ 0b0`. -/
def hTarget (t : BeamTarget) : Byte := t.hp ++ 0#1

/-- `vMask = 0b1 ++ IR2[14:8]`: line bit 7 is always compared. -/
def vMask (t : BeamTarget) : Byte := 1#1 ++ t.ve

/-- `hMask = IR2[7:1] ++ 0b0`: cycle bit 0 is never compared. -/
def hMask (t : BeamTarget) : Byte := t.he ++ 0#1

/-- The register a MOVE targets, `zext_9(IR1[8:1] ++ 0b0)`. -/
def moveTarget (ra : BitVec 8) : RegAddr := ra ++ 0#1

/-! ## The CPU-space address map (20_memory.md R76) -/

/-- What a CPU-space address selects. -/
inductive Region where
  | chip (offset : Nat)
  | cia (c : CiaId) (n : Nat)
  | reg (a : RegAddr)
  | autoconfig (off : BitVec 16)
  | fastRam (offset : Nat)
  | unmapped
  /-- an address of the embedding system (R78) -/
  | outside
  deriving DecidableEq, Repr

/-- `a = addr mod 2^24` (R79). -/
def cpuAddr (addr : Nat) : Nat := addr % 2 ^ 24

/-- The autoconfig window is mapped: a board is fitted and unconfigured (row 5 of R76). Whether the address map has the
row at all is not asked here (log 17). -/
def autoconfigMapped (s : State) : Bool :=
  decide (0 < s.cfg.fastRamSize.bytes) && s.zorro.fastRamConfigState == 0

/-- The Fast RAM window holds `a` (row 6 of R76). -/
def inFastRam (s : State) (a : Nat) : Bool :=
  s.zorro.fastRamConfigState == 1 && decide (s.zorro.fastRamBaseAddress.toNat ≤ a)
    && decide (a < s.zorro.fastRamBaseAddress.toNat + s.cfg.fastRamSize.bytes)

/-- What one row of the map selects for an address, if it matches. -/
def rowSelects (s : State) (row : MapRow) (a : Nat) : Option Region :=
  match row with
  | .chip lo hi => if lo ≤ a ∧ a ≤ hi then some (.chip (a % s.cfg.chipRamSize)) else none
  | .cia c base stride =>
    if base ≤ a ∧ (a - base) % stride = 0 ∧ (a - base) / stride < 16 then some (.cia c ((a - base) / stride)) else none
  | .regs base => if base ≤ a ∧ a < base + 0x200 then some (.reg (BitVec.ofNat 9 (a - base))) else none
  | .autoconfig base =>
    if base ≤ a ∧ a < base + 0x10000 ∧ autoconfigMapped s = true then some (.autoconfig (BitVec.ofNat 16 (a - base))) else none
  | .fastRam => if inFastRam s a then some (.fastRam (a - s.zorro.fastRamBaseAddress.toNat)) else none
  | .outside lo hi => if lo ≤ a ∧ a ≤ hi then some .outside else none

/-- The first row of a map that matches claims the access (R76, R77). -/
def firstRegion (s : State) (rows : List MapRow) (a : Nat) : Region :=
  match rows with
  | [] => .unmapped
  | row :: rest =>
    match rowSelects s row a with
    | some r => r
    | none => firstRegion s rest a

/-- The region a CPU-space address selects. -/
def regionOf (s : State) (a : Nat) : Region := firstRegion s s.cfg.addressMap a

/-- The CPU-space base of the chipset registers: 0xDFF000 in the default map (R76; 45_host.md R346). A map without such
a row takes 0xDFF000 too (DESIGN CHOICE, log 19). -/
def regsBase (rows : List MapRow) : Nat :=
  match rows with
  | [] => 0xDFF000
  | .regs base :: _ => base
  | _ :: rest => regsBase rest

/-- The CPU-space base of the autoconfig window: 0xE80000 in the default map (R76). A map without an autoconfig row
takes 0xE80000 too, and the autoconfig rows of the opcode table, issued directly, still reach the board there, while a
PEEK or POKE does not (DESIGN CHOICE, log 17). -/
def autoconfigBase (rows : List MapRow) : Nat :=
  match rows with
  | [] => 0xE80000
  | .autoconfig base :: _ => base
  | _ :: rest => autoconfigBase rest

/-! ## The slot table (40_agnus.md R142) -/

/-- The row listed for a position. -/
def slotRowAt (rows : List SlotRow) (line cycle : Nat) : Option (List Owner) :=
  match rows with
  | [] => none
  | r :: rest => if r.line = line ∧ r.cycle = cycle then some r.owners else slotRowAt rest line cycle

/-- `SLOT_TABLE(line, cycle)`: the owners eligible for the slot, highest priority first. -/
def slotTable (cfg : Config) (line cycle : Nat) : List Owner :=
  (slotRowAt cfg.slotRows line cycle).getD cfg.slotDefault

end Sys2Proof.Machine
end

