-- ==== Sys2Proof/Machine/Flags.lean ====
section
/-! DEFINITION. Flag computations: the beam comparison (41_copper.md R185), the Blitter's zero, first-word,
last-word, busy and fill flags (42_blitter.md R230, R239, R240, R243), the set/clear protocols of DMACON and IMR
(40_agnus.md R156, 43_cia.md R309), a timer's outputs (43_cia.md R264, R272). -/

namespace Sys2Proof.Machine

/-! ## The beam-position matcher (41_copper.md R185) -/

/-- The beam has reached the masked target: 8-bit line first, then the even cycle. -/
def beamReached (t : BeamTarget) (line : BitVec 9) (cycle : BitVec 8) : Bool :=
  let vB : Byte := line.extractLsb' 0 8
  let hB : Byte := cycle &&& 0xFE
  decide ((vB &&& vMask t).toNat > (t.vp &&& vMask t).toNat)
    || (vB &&& vMask t == t.vp &&& vMask t && decide ((hB &&& hMask t).toNat ≥ (hTarget t &&& hMask t).toNat))

/-- `beam and bf`: the beam condition and, unless `bfd`, `not busyFlag`. -/
def targetReached (t : BeamTarget) (s : State) : Bool :=
  beamReached t s.line s.cycle && (t.bfd || !s.blt.busyFlag)

/-- `waitSatisfied(ir1, ir2)`. -/
def waitSatisfied (ir1 ir2 : Word) (s : State) : Bool := targetReached (beamTargetOf ir1 ir2) s

/-! ## The Blitter's flags -/

/-- `zeroFlag` after an output word (42_blitter.md R240): only ever cleared, by a non-zero word. -/
def zeroAfter (zero : Bool) (d : Word) : Bool := zero && d == 0

/-- The counters and flags of a blit at its start (R230). -/
def startCounters (b : Blitter) (v : Word) : Blitter :=
  { b with
    height := sizeHeight v, width := sizeWidth v, xCounter := sizeWidth v, yCounter := sizeHeight v,
    busyFlag := true, zeroFlag := true, firstWordFlag := true, lastWordFlag := decide (sizeWidth v = 1),
    fillCarry := fillCarryIn b, aOld := 0, bOld := 0 }

/-- Counters and flags after a word (R243). -/
def stepCounters (b : Blitter) : Blitter :=
  if b.xCounter - 1 = 0 then
    { b with
      yCounter := b.yCounter - 1, xCounter := b.width, fillCarry := fillCarryIn b, firstWordFlag := true,
      lastWordFlag := decide (b.width = 1), busyFlag := b.busyFlag && decide (b.yCounter - 1 ≠ 0) }
  else
    { b with xCounter := b.xCounter - 1, firstWordFlag := false, lastWordFlag := decide (b.xCounter - 1 = 1) }

/-! ## Set/clear protocols -/

/-- DMACON (40_agnus.md R156): bit 15 sets or clears the bits named by bits 10..0. -/
def dmaconAfter (dmacon : BitVec 11) (v : Word) : BitVec 11 :=
  if v.getLsbD 15 then dmacon ||| v.extractLsb' 0 11 else dmacon &&& ~~~(v.extractLsb' 0 11)

/-- IMR (43_cia.md R309): bit 7 sets or clears the mask bits named by bits 4..0. -/
def imrAfter (imr v : Byte) : Byte :=
  if v.getLsbD 7 then imr ||| (v &&& 0x1F) else imr &&& ~~~(v &&& 0x1F)

/-! ## Timer flags (43_cia.md R261 to R264, R271, R272) -/

/-- `underflow(T)` without its ICR part: a one-shot timer stops with its count at 0, a continuous one reloads (R263);
the toggle output flips (R264). -/
def underflowTimer (t : Timer) : Timer :=
  if t.oneShotMode then { t with cr := t.cr &&& 0xFE, toggleOutput := !t.toggleOutput }
  else { t with count := t.latch, toggleOutput := !t.toggleOutput }

/-- A tick finds the timer running at 0: the underflow (R261). -/
def underflows (t : Timer) : Bool := t.running && t.count == 0

/-- One tick of a timer (R261); the pulse output is true exactly after a tick that underflowed (R264). -/
def tickTimer (t : Timer) : Timer :=
  if t.running then
    if t.count = 0 then { underflowTimer t with pulseOutput := true }
    else { t with count := t.count - 1, pulseOutput := false }
  else { t with pulseOutput := false }

/-- A write of a timer's control byte (R310): bit 4 loads the count and is not stored; a start sets the toggle
output (R272). -/
def writeControl (t : Timer) (v : Byte) : Timer :=
  { t with
    cr := v &&& 0xEF
    count := if v.getLsbD 4 then t.latch else t.count
    toggleOutput := (v.getLsbD 0 && !t.running) || t.toggleOutput }

/-- A write of a timer's low latch byte (R300, R302): the count is not touched. -/
def writeLatchLo (t : Timer) (v : Byte) : Timer := { t with latch := setWordLo t.latch v }

/-- A write of a timer's high latch byte (R301, R303): a stopped timer loads its count. -/
def writeLatchHi (t : Timer) (v : Byte) : Timer :=
  { t with
    latch := setWordHi t.latch v
    count := if t.running then t.count else setWordHi t.latch v }

end Sys2Proof.Machine
end

