-- ==== Sys2Proof/Machine/CiaReads.lean ====
section
/-! DEFINITION. The sixteen CIA register reads (43_cia.md R280 to R295), each for the CIA it addresses. -/

namespace Sys2Proof.Machine

open Host (Outcome)

/-- A port read (R280): output bits read back the data register, input bits the sampled pins. -/
def portRead (p : Port) : Byte := (p.register &&& p.direction) ||| (p.port &&& ~~~p.direction)

/-- `v` with the bit of mask `m` replaced by `x` when `on`. -/
def override (v m : Byte) (on x : Bool) : Byte := if on then (v &&& ~~~m) ||| gated x m else v

/-- A read of PRB (R281): a timer output that is switched to its pin replaces bit 6 or bit 7. -/
def portBRead (x : Cia) : Byte :=
  override (override (portRead x.portB) 0x40 x.timerA.pbOutputEnabled x.timerA.out) 0x80 x.timerB.pbOutputEnabled
    x.timerB.out

/-- The levels a CIA drives on port B and which pins it drives (R273). -/
def portBDrive (x : Cia) : Byte × Byte :=
  (override (override x.portB.register 0x40 x.timerA.pbOutputEnabled x.timerA.out) 0x80 x.timerB.pbOutputEnabled
      x.timerB.out,
    override (override x.portB.direction 0x40 x.timerA.pbOutputEnabled true) 0x80 x.timerB.pbOutputEnabled true)

/-- The levels a CIA drives on port A and which pins it drives (R273). -/
def portADrive (x : Cia) : Byte × Byte := (x.portA.register, x.portA.direction)

/-- Byte `k` of a TOD number: bits 7..0, 15..8 or 23..16 for `k` = 0, 1, 2 (R288 to R290); bits a narrower counter does
not have read 0 (log 14). -/
def todByte (k t : Nat) : Byte := BitVec.ofNat 8 (t / 256 ^ k)

/-- What the TOD read registers show (R270): the latch while latched, else the counter. -/
def todShown (x : Cia) : Nat := if x.todLatched then x.tod.latch else x.tod.value

/-- The latching of a TODHI read (R290): a fresh copy only if none is held. -/
def latchTod (x : Cia) : Cia :=
  if x.todLatched then x else { x with tod := { x.tod with latch := x.tod.value }, todLatched := true }

/-- A register read without side effects. -/
def readByte (s : State) (c : CiaId) (f : Cia → Byte) : Out := .next (setResult s (.byte (f (getCia s c))))

/-- PRA read (R280). -/
def execPraR (c : CiaId) (s : State) : Out := readByte s c (fun x => portRead x.portA)

/-- PRB read (R281). -/
def execPrbR (c : CiaId) (s : State) : Out := readByte s c (fun x => portBRead x)

/-- DDRA read (R282). -/
def execDdraR (c : CiaId) (s : State) : Out := readByte s c (fun x => x.portA.direction)

/-- DDRB read (R283). -/
def execDdrbR (c : CiaId) (s : State) : Out := readByte s c (fun x => x.portB.direction)

/-- TALO read (R284). -/
def execTaloR (c : CiaId) (s : State) : Out := readByte s c (fun x => wordLo x.timerA.count)

/-- TAHI read (R285). -/
def execTahiR (c : CiaId) (s : State) : Out := readByte s c (fun x => wordHi x.timerA.count)

/-- TBLO read (R286). -/
def execTbloR (c : CiaId) (s : State) : Out := readByte s c (fun x => wordLo x.timerB.count)

/-- TBHI read (R287). -/
def execTbhiR (c : CiaId) (s : State) : Out := readByte s c (fun x => wordHi x.timerB.count)

/-- TODLO read (R288): gives the low byte, then releases the latch. -/
def execTodloR (c : CiaId) (s : State) : Out :=
  .next (setResult (updateCia s c (fun x => { x with todLatched := false }))
    (.byte (todByte 0 (todShown (getCia s c)))))

/-- TODMID read (R289). -/
def execTodmidR (c : CiaId) (s : State) : Out := readByte s c (fun x => todByte 1 (todShown x))

/-- TODHI read (R290): latches the counter unless it is latched, and gives the latch's high byte. -/
def execTodhiR (c : CiaId) (s : State) : Out :=
  .next (setResult (updateCia s c latchTod) (.byte (todByte 2 (latchTod (getCia s c)).tod.latch)))

/-- Register 0xB read (R291): the CIA drives no value; PEEK reports it as unmapped. -/
def execRegbR (_c : CiaId) (s : State) : Out := .next (setResult s .noValue)

/-- SDR read (R292). -/
def execSdrR (c : CiaId) (s : State) : Out := readByte s c (fun x => x.sdr)

/-- ICR read (R293): the interrupt acknowledge. -/
def execIcrR (c : CiaId) (s : State) : Out :=
  .next (setResult (updateCia s c acknowledgeIcr) (.byte (icrReadByte (getCia s c))))

/-- CRA read (R294). -/
def execCraR (c : CiaId) (s : State) : Out := readByte s c (fun x => x.timerA.cr)

/-- CRB read (R295). -/
def execCrbR (c : CiaId) (s : State) : Out := readByte s c (fun x => x.timerB.cr)

/-- The read of register `n` of a CIA (30_encoding.md R118); a CIA has no register above 15. -/
def ciaRead (c : CiaId) (n : Nat) (s : State) : Out :=
  match n with
  | 0 => execPraR c s
  | 1 => execPrbR c s
  | 2 => execDdraR c s
  | 3 => execDdrbR c s
  | 4 => execTaloR c s
  | 5 => execTahiR c s
  | 6 => execTbloR c s
  | 7 => execTbhiR c s
  | 8 => execTodloR c s
  | 9 => execTodmidR c s
  | 10 => execTodhiR c s
  | 11 => execRegbR c s
  | 12 => execSdrR c s
  | 13 => execIcrR c s
  | 14 => execCraR c s
  | 15 => execCrbR c s
  | _ => .next (setResult s .noValue)

end Sys2Proof.Machine
end

