-- ==== Sys2Proof/Machine/CiaWrites.lean ====
section
/-! DEFINITION. The sixteen CIA register writes (43_cia.md R296 to R311), each for the CIA it addresses. -/

namespace Sys2Proof.Machine

open Host (Outcome)

/-- A TOD number of `bits` bits with its byte `k` replaced: bits 7..0, 15..8 or 23..16 for `k` = 0, 1, 2 (R304 to
R306). Bits a narrower counter does not have are dropped (log 14). -/
def setTodByte (bits k t : Nat) (v : Byte) : Nat :=
  (t / 256 ^ (k + 1) * 256 ^ (k + 1) + v.toNat * 256 ^ k + t % 256 ^ k) % 2 ^ bits

/-- TODLO write (R304): the alarm, or the counter, which it restarts. -/
def writeTodLo (bits : Nat) (x : Cia) (v : Byte) : Cia :=
  if alarmSelected x then { x with tod := { x.tod with alarm := setTodByte bits 0 x.tod.alarm v } }
  else { x with tod := { x.tod with value := setTodByte bits 0 x.tod.value v }, todStopped := false }

/-- TODMID write (R305): the alarm, or the counter. -/
def writeTodMid (bits : Nat) (x : Cia) (v : Byte) : Cia :=
  if alarmSelected x then { x with tod := { x.tod with alarm := setTodByte bits 1 x.tod.alarm v } }
  else { x with tod := { x.tod with value := setTodByte bits 1 x.tod.value v } }

/-- TODHI write (R306): the alarm, or the counter, which it stops. -/
def writeTodHi (bits : Nat) (x : Cia) (v : Byte) : Cia :=
  if alarmSelected x then { x with tod := { x.tod with alarm := setTodByte bits 2 x.tod.alarm v } }
  else { x with tod := { x.tod with value := setTodByte bits 2 x.tod.value v }, todStopped := true }

/-- IMR write (R309): the set/clear protocol; enabling a source that is pending raises the line. -/
def writeImr (x : Cia) (v : Byte) : Cia :=
  { x with imr := imrAfter x.imr v, irq := x.irq || (x.icr &&& imrAfter x.imr v != 0) }

/-- A register write that only changes the CIA it addresses. -/
def writeCia (s : State) (c : CiaId) (f : Cia → Cia) : Out := .next (updateCia s c f)

/-- PRA write (R296). -/
def execPraW (c : CiaId) (v : Byte) (s : State) : Out := writeCia s c (fun x => { x with portA := { x.portA with register := v } })

/-- PRB write (R297). -/
def execPrbW (c : CiaId) (v : Byte) (s : State) : Out := writeCia s c (fun x => { x with portB := { x.portB with register := v } })

/-- DDRA write (R298). -/
def execDdraW (c : CiaId) (v : Byte) (s : State) : Out := writeCia s c (fun x => { x with portA := { x.portA with direction := v } })

/-- DDRB write (R299). -/
def execDdrbW (c : CiaId) (v : Byte) (s : State) : Out := writeCia s c (fun x => { x with portB := { x.portB with direction := v } })

/-- TALO write (R300). -/
def execTaloW (c : CiaId) (v : Byte) (s : State) : Out := writeCia s c (fun x => { x with timerA := writeLatchLo x.timerA v })

/-- TAHI write (R301). -/
def execTahiW (c : CiaId) (v : Byte) (s : State) : Out := writeCia s c (fun x => { x with timerA := writeLatchHi x.timerA v })

/-- TBLO write (R302). -/
def execTbloW (c : CiaId) (v : Byte) (s : State) : Out := writeCia s c (fun x => { x with timerB := writeLatchLo x.timerB v })

/-- TBHI write (R303). -/
def execTbhiW (c : CiaId) (v : Byte) (s : State) : Out := writeCia s c (fun x => { x with timerB := writeLatchHi x.timerB v })

/-- TODLO write (R304). -/
def execTodloW (c : CiaId) (v : Byte) (s : State) : Out := writeCia s c (fun x => writeTodLo s.cfg.todBits x v)

/-- TODMID write (R305). -/
def execTodmidW (c : CiaId) (v : Byte) (s : State) : Out := writeCia s c (fun x => writeTodMid s.cfg.todBits x v)

/-- TODHI write (R306). -/
def execTodhiW (c : CiaId) (v : Byte) (s : State) : Out := writeCia s c (fun x => writeTodHi s.cfg.todBits x v)

/-- Register 0xB write (R307): the value is dropped. -/
def execRegbW (_c : CiaId) (_v : Byte) (s : State) : Out := .next s

/-- SDR write (R308): storage; refused in serial output mode. -/
def execSdrW (c : CiaId) (v : Byte) (s : State) : Out :=
  if (getCia s c).timerA.cr.getLsbD 6 then .refused .ciaSerialOutputNotSpecified
  else writeCia s c (fun x => { x with sdr := v })

/-- IMR write (R309). -/
def execImrW (c : CiaId) (v : Byte) (s : State) : Out := writeCia s c (fun x => writeImr x v)

/-- CRA write (R310): refused where bit 5 selects another count source (R274). -/
def execCraW (c : CiaId) (v : Byte) (s : State) : Out :=
  if v.getLsbD 5 then .refused .ciaInputModeNotSpecified
  else writeCia s c (fun x => { x with timerA := writeControl x.timerA v })

/-- CRB write (R311): refused where bits 6..5 select another count source (R274). -/
def execCrbW (c : CiaId) (v : Byte) (s : State) : Out :=
  if v.getLsbD 5 || v.getLsbD 6 then .refused .ciaInputModeNotSpecified
  else writeCia s c (fun x => { x with timerB := writeControl x.timerB v })

/-- The write of register `n` of a CIA (30_encoding.md R118); a CIA has no register above 15. -/
def ciaWrite (c : CiaId) (n : Nat) (v : Byte) (s : State) : Out :=
  match n with
  | 0 => execPraW c v s
  | 1 => execPrbW c v s
  | 2 => execDdraW c v s
  | 3 => execDdrbW c v s
  | 4 => execTaloW c v s
  | 5 => execTahiW c v s
  | 6 => execTbloW c v s
  | 7 => execTbhiW c v s
  | 8 => execTodloW c v s
  | 9 => execTodmidW c v s
  | 10 => execTodhiW c v s
  | 11 => execRegbW c v s
  | 12 => execSdrW c v s
  | 13 => execImrW c v s
  | 14 => execCraW c v s
  | 15 => execCrbW c v s
  | _ => .next s

end Sys2Proof.Machine
end

