-- ==== Sys2Proof/Machine/BlitterStep.lean ====
section
/-! DEFINITION. `Blitter.stepOneWord` (42_blitter.md R232 to R243), sub-step by sub-step, and the Blitter's
claim (R210). -/

namespace Sys2Proof.Machine

/-- `claims(BLITTER)` (R210). -/
def blitterClaims (s : State) : Bool := blitterEnabled s && s.blt.busyFlag

/-- Sub-step 1 (R233, R234): the enabled sources are read, in the order A, B, C; a disabled one keeps its holding
register. -/
def readSources (s : State) : Blitter :=
  { s.blt with
    holdA := if useA s.blt then chipRead16 s s.blt.ptrA else s.blt.holdA
    holdB := if useB s.blt then chipRead16 s s.blt.ptrB else s.blt.holdB
    holdC := if useC s.blt then chipRead16 s s.blt.ptrC else s.blt.holdC }

/-- Sub-step 2 (R235): the word masks apply to channel A only, before the shifter. -/
def maskedA (b : Blitter) : Word :=
  b.holdA &&& (if b.firstWordFlag then b.firstMask else 0xFFFF) &&& (if b.lastWordFlag then b.lastMask else 0xFFFF)

/-- The funnel of sub-step 3 (R236): the current word shifted right, the previous word's bits entering at the top. -/
def funnelShift (old cur : Word) (amount : Nat) : Word := (longOf old cur >>> amount).extractLsb' 0 16

/-- Sub-step 4 (R237): bit `i` of the output is bit `4*a + 2*b + c` of the minterm. -/
def mintermWord (lf : Byte) (a b c : Word) : Word :=
  wordOfBits (fun i =>
    lf.getLsbD (4 * (a.getLsbD i).toNat + 2 * (b.getLsbD i).toNat + (c.getLsbD i).toNat))

/-- The carry that enters bit `i` of a filled word (R239): every 1 bit below toggles it. -/
def fillCarryAt (d : Word) (carry : Bool) (i : Nat) : Bool :=
  match i with
  | 0 => carry
  | k + 1 => fillCarryAt d carry k ^^ d.getLsbD k

/-- The word of sub-step 5 (R239): exclusive or inclusive fill, from the least significant bit. -/
def fillWord (exclusive : Bool) (d : Word) (carry : Bool) : Word :=
  wordOfBits (fun i => if exclusive then fillCarryAt d carry i ^^ d.getLsbD i else fillCarryAt d carry i || d.getLsbD i)

/-- Sub-steps 2 to 6 (R235 to R240) on the holding registers: the shifter's history, the fill carry, the output
word in `holdD` and the zero flag. -/
def combineWord (b : Blitter) : Blitter :=
  let aM := maskedA b
  let d0 := mintermWord (minterm b) (funnelShift b.aOld aM (ash b)) (funnelShift b.bOld b.holdB (bsh b)) b.holdC
  let d := if fillEnable b then fillWord (fillExclusive b) d0 b.fillCarry else d0
  { b with
    aOld := aM
    bOld := b.holdB
    fillCarry := if fillEnable b then fillCarryAt d0 b.fillCarry 16 else b.fillCarry
    holdD := d
    zeroFlag := zeroAfter b.zeroFlag d }

/-- The step of one channel's pointer (R242): its modulo after the last word of a line, else 2; a disabled channel's
pointer stays. -/
def stepPointer (enabled last : Bool) (p : Long) (modulo : Word) : Long :=
  if enabled then (if last then p + modulo.signExtend 32 else p + 2) else p

/-- Sub-step 8 (R242): the pointers of the enabled channels. -/
def stepPointers (b : Blitter) : Blitter :=
  { b with
    ptrA := stepPointer (useA b) b.lastWordFlag b.ptrA b.modA
    ptrB := stepPointer (useB b) b.lastWordFlag b.ptrB b.modB
    ptrC := stepPointer (useC b) b.lastWordFlag b.ptrC b.modC
    ptrD := stepPointer (storeToDest b) b.lastWordFlag b.ptrD b.modD }

/-- Sub-step 7 (R241): the output word goes to channel D if it is enabled. -/
def writeDestination (s : State) (b : Blitter) : State :=
  if storeToDest b then chipWrite16 s b.ptrD b.holdD else s

/-- `Blitter.stepOneWord` (R232): reads, combination, destination write, pointer step, counters. -/
def stepOneWord (s : State) : State :=
  let b := combineWord (readSources s)
  { writeDestination s b with blt := stepCounters (stepPointers b) }

end Sys2Proof.Machine
end

