-- ==== Sys2Proof/Machine/CiaTick.lean ====
section
/-! DEFINITION. What clocks a CIA (43_cia.md R261 to R269): the tick of its two timers and the TOD pulse. -/

namespace Sys2Proof.Machine

/-- Timer A's part of a tick (R261, R262). -/
def tickTimerA (x : Cia) : Cia :=
  if underflows x.timerA then setIcr { x with timerA := tickTimer x.timerA } .timerA
  else { x with timerA := tickTimer x.timerA }

/-- Timer B's part of a tick (R261, R262). -/
def tickTimerB (x : Cia) : Cia :=
  if underflows x.timerB then setIcr { x with timerB := tickTimer x.timerB } .timerB
  else { x with timerB := tickTimer x.timerB }

/-- `CIA.tick` (R261): timer A, then timer B (R265). -/
def tickCia (x : Cia) : Cia := tickTimerB (tickTimerA x)

/-- `CIA.todPulse` (R269): the counter of `bits` = `TOD_BITS` bits increments, modulo `2 ^ bits`, unless stopped;
reaching the alarm sets its source. -/
def pulseTod (bits : Nat) (x : Cia) : Cia :=
  if x.todStopped then x
  else
    let y := { x with tod := { x.tod with value := (x.tod.value + 1) % 2 ^ bits } }
    if y.tod.value = y.tod.alarm then setIcr y .alarm else y

end Sys2Proof.Machine
end

