-- ==== Sys2Proof/Machine/AgnusRegs.lean ====
section
/-! DEFINITION. The chipset registers that belong to Agnus (40_agnus.md section 7): DMACONR, VPOSR, VHPOSR,
VPOSW, VHPOSW, DMACON, BPLCON0. -/

namespace Sys2Proof.Machine

open Host (Outcome)

/-- The value of DMACONR (R153). -/
def dmaconrValue (s : State) : Word :=
  s.agnus.dmacon.setWidth 16 ||| gated s.blt.busyFlag 0x4000 ||| gated s.blt.zeroFlag 0x2000

/-- The value of VPOSR (R154): bit 15 the long-frame flip-flop, bit 0 line bit 8. -/
def vposrValue (s : State) : Word := gated s.frame.isLongFrame 0x8000 ||| gated (s.line.getLsbD 8) 0x0001

/-- The value of VHPOSR (R155): line bits 7..0, then the raster cycle. -/
def vhposrValue (s : State) : Word := wordOf (s.line.extractLsb' 0 8) s.cycle

/-- DMACONR, read (R153): no side effect. -/
def execDmaconr (s : State) : Out := .next (setResult s (.word (dmaconrValue s)))

/-- VPOSR, read (R154): no side effect. -/
def execVposr (s : State) : Out := .next (setResult s (.word (vposrValue s)))

/-- VHPOSR, read (R155): no side effect. -/
def execVhposr (s : State) : Out := .next (setResult s (.word (vhposrValue s)))

/-- VPOSW, write: refused, the spec gives it no meaning (R158). -/
def execVposw (_src : Master) (_v : Word) (_s : State) : Out := .refused .rasterPositionWrite

/-- VHPOSW, write: refused, the spec gives it no meaning (R158). -/
def execVhposw (_src : Master) (_v : Word) (_s : State) : Out := .refused .rasterPositionWrite

/-- DMACON, write (R156): the set/clear protocol on bits 10..0. -/
def execDmacon (_src : Master) (v : Word) (s : State) : Out :=
  .next { s with agnus := { s.agnus with dmacon := dmaconAfter s.agnus.dmacon v } }

/-- BPLCON0, write (R157): bit 2 is the interlace enable; the write is also forwarded. -/
def execBplcon0 (src : Master) (v : Word) (s : State) : Out :=
  .next (emit { s with agnus := { s.agnus with interlaceEnabled := v.getLsbD 2 } } (.regWriteOut src 0x100 v))

end Sys2Proof.Machine
end

