-- ==== Sys2Proof/Machine/BlitterRegs.lean ====
section
/-! DEFINITION. The Blitter's twenty registers (42_blitter.md R211 to R231). Each is refused while a blit is in
flight (30_encoding.md R112, 70_reset_and_hazards.md R412). -/

namespace Sys2Proof.Machine

open Host (Outcome)

/-- A write of a Blitter register: refused while `busyFlag` (R112), else it changes the Blitter alone. -/
def writeBlitter (s : State) (f : Blitter → Blitter) : Out :=
  if s.blt.busyFlag then .refused .blitterRegisterWriteWhileBusy else .next { s with blt := f s.blt }

/-- BLTCON0, write (R211). -/
def execBltcon0 (_src : Master) (v : Word) (s : State) : Out := writeBlitter s (fun b => { b with control0 := v })

/-- BLTCON1, write (R212). -/
def execBltcon1 (_src : Master) (v : Word) (s : State) : Out := writeBlitter s (fun b => { b with control1 := v })

/-- BLTAFWM, write (R213). -/
def execBltafwm (_src : Master) (v : Word) (s : State) : Out := writeBlitter s (fun b => { b with firstMask := v })

/-- BLTALWM, write (R214). -/
def execBltalwm (_src : Master) (v : Word) (s : State) : Out := writeBlitter s (fun b => { b with lastMask := v })

/-- BLTCPTH, write (R215). -/
def execBltcpth (_src : Master) (v : Word) (s : State) : Out := writeBlitter s (fun b => { b with ptrC := setHighHalf b.ptrC v })

/-- BLTCPTL, write (R216). -/
def execBltcptl (_src : Master) (v : Word) (s : State) : Out := writeBlitter s (fun b => { b with ptrC := setLowHalf b.ptrC v })

/-- BLTBPTH, write (R217). -/
def execBltbpth (_src : Master) (v : Word) (s : State) : Out := writeBlitter s (fun b => { b with ptrB := setHighHalf b.ptrB v })

/-- BLTBPTL, write (R218). -/
def execBltbptl (_src : Master) (v : Word) (s : State) : Out := writeBlitter s (fun b => { b with ptrB := setLowHalf b.ptrB v })

/-- BLTAPTH, write (R219). -/
def execBltapth (_src : Master) (v : Word) (s : State) : Out := writeBlitter s (fun b => { b with ptrA := setHighHalf b.ptrA v })

/-- BLTAPTL, write (R220). -/
def execBltaptl (_src : Master) (v : Word) (s : State) : Out := writeBlitter s (fun b => { b with ptrA := setLowHalf b.ptrA v })

/-- BLTDPTH, write (R221). -/
def execBltdpth (_src : Master) (v : Word) (s : State) : Out := writeBlitter s (fun b => { b with ptrD := setHighHalf b.ptrD v })

/-- BLTDPTL, write (R222). -/
def execBltdptl (_src : Master) (v : Word) (s : State) : Out := writeBlitter s (fun b => { b with ptrD := setLowHalf b.ptrD v })

/-- BLTCMOD, write (R223). -/
def execBltcmod (_src : Master) (v : Word) (s : State) : Out := writeBlitter s (fun b => { b with modC := v })

/-- BLTBMOD, write (R224). -/
def execBltbmod (_src : Master) (v : Word) (s : State) : Out := writeBlitter s (fun b => { b with modB := v })

/-- BLTAMOD, write (R225). -/
def execBltamod (_src : Master) (v : Word) (s : State) : Out := writeBlitter s (fun b => { b with modA := v })

/-- BLTDMOD, write (R226). -/
def execBltdmod (_src : Master) (v : Word) (s : State) : Out := writeBlitter s (fun b => { b with modD := v })

/-- BLTCDAT, write (R227). -/
def execBltcdat (_src : Master) (v : Word) (s : State) : Out := writeBlitter s (fun b => { b with holdC := v })

/-- BLTBDAT, write (R228). -/
def execBltbdat (_src : Master) (v : Word) (s : State) : Out := writeBlitter s (fun b => { b with holdB := v })

/-- BLTADAT, write (R229). -/
def execBltadat (_src : Master) (v : Word) (s : State) : Out := writeBlitter s (fun b => { b with holdA := v })

/-- BLTSIZE, write (R230): starts a blit with the registers as they stand; refused with LINE or DESC set (R231). -/
def execBltsize (_src : Master) (v : Word) (s : State) : Out :=
  if s.blt.busyFlag then .refused .blitterRegisterWriteWhileBusy
  else if lineOrDesc s.blt then .refused .blitterModeNotSpecified
  else .next { s with blt := startCounters s.blt v }

end Sys2Proof.Machine
end

