-- ==== Sys2Proof/Machine/CopperRegs.lean ====
section
/-! DEFINITION. The Copper's seven registers and the list restart (41_copper.md R171, R189 to R196). -/

namespace Sys2Proof.Machine

open Host (Outcome)

/-- The base of a list. -/
def listBase (c : Copper) (n : ListId) : Long :=
  match n with
  | .one => c.list1Base
  | .two => c.list2Base

/-- `Copper.restart(n, src)` (R171): the Copper's own jump to a zero base retires it (R196), every other restart
arms it. -/
def restartCopper (c : Copper) (n : ListId) (src : Master) : Copper :=
  { c with
    activeListId := n
    programCounter := listBase c n
    waiting := false
    active := !(src == .copper && listBase c n == 0) }

/-- COPJMP1, write strobe (R189): the value is ignored. -/
def execCopjmp1 (src : Master) (_v : Word) (s : State) : Out := .next { s with cop := restartCopper s.cop .one src }

/-- COPJMP2, write strobe (R190): the value is ignored. -/
def execCopjmp2 (src : Master) (_v : Word) (s : State) : Out := .next { s with cop := restartCopper s.cop .two src }

/-- COP1LCH, write (R191). -/
def execCop1lch (_src : Master) (v : Word) (s : State) : Out :=
  .next { s with cop := { s.cop with list1Base := setHighHalf s.cop.list1Base v } }

/-- COP1LCL, write (R192). -/
def execCop1lcl (_src : Master) (v : Word) (s : State) : Out :=
  .next { s with cop := { s.cop with list1Base := setLowHalf s.cop.list1Base v } }

/-- COP2LCH, write (R193). -/
def execCop2lch (_src : Master) (v : Word) (s : State) : Out :=
  .next { s with cop := { s.cop with list2Base := setHighHalf s.cop.list2Base v } }

/-- COP2LCL, write (R194). -/
def execCop2lcl (_src : Master) (v : Word) (s : State) : Out :=
  .next { s with cop := { s.cop with list2Base := setLowHalf s.cop.list2Base v } }

/-- COPCON, write (R195): bit 1 is `cdang`, the other bits are ignored. -/
def execCopcon (_src : Master) (v : Word) (s : State) : Out :=
  .next { s with cop := { s.cop with cdang := v.getLsbD 1 } }

end Sys2Proof.Machine
end

