-- ==== Sys2Proof/Machine/RegBus.lean ====
section
/-! DEFINITION. The chipset register bus (30_encoding.md R107 to R112): `RegWrite` and `RegRead`. -/

namespace Sys2Proof.Machine

open Host (Outcome)

/-- `RegWrite(src, a, v)` (R108): the rule of the register, or, for an address outside the write column of R110,
forwarding (R111; R124), during a blit too (log 10). -/
def regWrite (src : Master) (a : RegAddr) (v : Word) (s : State) : Out :=
  match regIndex a with
  | 0x02A => execVposw src v s
  | 0x02C => execVhposw src v s
  | 0x02E => execCopcon src v s
  | 0x040 => execBltcon0 src v s
  | 0x042 => execBltcon1 src v s
  | 0x044 => execBltafwm src v s
  | 0x046 => execBltalwm src v s
  | 0x048 => execBltcpth src v s
  | 0x04A => execBltcptl src v s
  | 0x04C => execBltbpth src v s
  | 0x04E => execBltbptl src v s
  | 0x050 => execBltapth src v s
  | 0x052 => execBltaptl src v s
  | 0x054 => execBltdpth src v s
  | 0x056 => execBltdptl src v s
  | 0x058 => execBltsize src v s
  | 0x060 => execBltcmod src v s
  | 0x062 => execBltbmod src v s
  | 0x064 => execBltamod src v s
  | 0x066 => execBltdmod src v s
  | 0x070 => execBltcdat src v s
  | 0x072 => execBltbdat src v s
  | 0x074 => execBltadat src v s
  | 0x080 => execCop1lch src v s
  | 0x082 => execCop1lcl src v s
  | 0x084 => execCop2lch src v s
  | 0x086 => execCop2lcl src v s
  | 0x088 => execCopjmp1 src v s
  | 0x08A => execCopjmp2 src v s
  | 0x096 => execDmacon src v s
  | 0x100 => execBplcon0 src v s
  | _ => .next (emit s (.regWriteOut src (a &&& 0x1FE) v))

/-- `RegRead(a)` (R109): the value of one of the three readable registers; `none` for every other address. -/
def regRead (a : RegAddr) (s : State) : Option Word :=
  match regIndex a with
  | 0x002 => some (dmaconrValue s)
  | 0x004 => some (vposrValue s)
  | 0x006 => some (vhposrValue s)
  | _ => none

end Sys2Proof.Machine
end

