-- ==== Sys2Proof/Machine/CopperOps.lean ====
section
/-! DEFINITION. The Copper's three instructions, its claim, its fetch and its tick (41_copper.md R170 to R188). -/

namespace Sys2Proof.Machine

open Host (Outcome)

/-- The danger allow-list (R181). -/
def moveAllowed (s : State) (reg : RegAddr) : Bool :=
  decide ((if s.cop.cdang then s.cfg.copperMinRegDanger else s.cfg.copperMinRegSafe).toNat ≤ reg.toNat)

/-- MOVE (R180): a register write by the Copper, silently discarded outside the allow-list (R182). -/
def execMove (ra : BitVec 8) (dw : Word) (s : State) : Out :=
  if moveAllowed s (moveTarget ra) then regWrite .copper (moveTarget ra) dw s
  else .next (emit s (.copperDiscard (moveTarget ra) dw))

/-- WAIT (R183): nothing if the target is reached, else the Copper sleeps (R184). -/
def execWait (t : BeamTarget) (s : State) : Out :=
  if targetReached t s then .next s else .next { s with cop := { s.cop with waiting := true } }

/-- SKIP (R186): steps over the next instruction if the target is reached. -/
def execSkip (t : BeamTarget) (s : State) : Out :=
  if targetReached t s then .next { s with cop := { s.cop with programCounter := s.cop.programCounter + 4 } }
  else .next s

/-- `claims(COPPER)` (R172): enabled, active, and not sleeping on an unsatisfied WAIT. -/
def copperClaims (s : State) : Bool :=
  copperEnabled s && s.cop.active && (!s.cop.waiting || waitSatisfied s.cop.ir1 s.cop.lastInstructionWord s)

/-- The release of a held WAIT and the fetch of a granted Copper (R173, R174): both words, then `pc + 4`. -/
def copperFetch (s : State) : State :=
  { s with
    cop := { s.cop with
      waiting := false
      ir1 := chipRead16 s s.cop.programCounter
      lastInstructionWord := chipRead16 s (s.cop.programCounter + 2)
      programCounter := s.cop.programCounter + 4 } }

/-- Decode and execute (R175) the words the Copper holds. The decoder gives one of the three instructions (R105), so
the last arm is never taken. -/
def copperExecute (s : State) : Out :=
  match decodeCopper s.cop.ir1 s.cop.lastInstructionWord with
  | .move ra dw => execMove ra dw s
  | .wait t => execWait t s
  | .skip t => execSkip t s
  | _ => .next s

/-- `Copper.tick` (R173): at most one instruction per grant. -/
def copperTick (s : State) : Out := copperExecute (copperFetch s)

end Sys2Proof.Machine
end

