-- ==== Sys2Proof/Machine/Agnus.lean ====
section
/-! DEFINITION. The scheduler (40_agnus.md): the frame primitives, the raster increment, the arbitration, and the
sub-steps of `advanceOneCycle` before and after the owner's callback. -/

namespace Sys2Proof.Machine

open Host (Outcome)

/-! ## Frame primitives -/

/-- `numLines(frame)` (10_state.md R22). -/
def numLines (f : Frame) : Nat := if f.isLongFrame then Config.linesLong else Config.linesShort

/-- `Frame.next(interlaceEnabled)` (R131). -/
def frameNext (f : Frame) (interlaceEnabled : Bool) : Frame :=
  { sequenceNumber := f.sequenceNumber + 1
    wasLongFramePrev := f.isLongFrame
    isLongFrame := if interlaceEnabled then !f.isLongFrame else f.isLongFrame }

/-! ## Sub-steps 0 to 3 -/

/-- Sub-step 0 (R151): the pins are sampled. -/
def samplePins (x : Cia) (p : CiaPins) : Cia :=
  { x with portA := { x.portA with port := p.portA }, portB := { x.portB with port := p.portB } }

/-- The increment leaves the last cycle of the last line of the frame that is ending (R136). -/
def wraps (s : State) : Bool :=
  !decide (s.cycle.toNat < Config.lineCycles - 1) && !decide (s.line.toNat < numLines s.frame - 1)

/-- The cycle after the increment (R136). -/
def nextCycle (s : State) : BitVec 8 := if s.cycle.toNat < Config.lineCycles - 1 then s.cycle + 1 else 0

/-- The line after the increment (R136). -/
def nextLine (s : State) : BitVec 9 :=
  if s.cycle.toNat < Config.lineCycles - 1 then s.line
  else if s.line.toNat < numLines s.frame - 1 then s.line + 1 else 0

/-- Sub-steps 1 to 3 (R136 to R138): the raster increment, the new frame, the line signals. -/
def advanceRaster (s : State) : State :=
  { s with
    cycle := nextCycle s
    line := nextLine s
    frame := if wraps s then frameNext s.frame s.agnus.interlaceEnabled else s.frame
    agnus := { s.agnus with
      frameStart := wraps s
      hblank := nextCycle s == 0
      hsync := nextCycle s == 0 } }

/-- Sub-steps 0 to 3 of `advanceOneCycle` (R135). -/
def beginCycle (i : CycleInputs) (s : State) : State :=
  advanceRaster { s with ciaA := samplePins s.ciaA i.pinsA, ciaB := samplePins s.ciaB i.pinsB }

/-! ## Arbitration (R139 to R145) -/

/-- `claims(o)` at the position reached (R139, R140, R144). -/
def claims (i : CycleInputs) (s : State) (o : Owner) : Bool :=
  match o with
  | .cpu => i.cpuClaim
  | .disk => i.disk
  | .aud0 => i.aud.getLsbD 0
  | .aud1 => i.aud.getLsbD 1
  | .aud2 => i.aud.getLsbD 2
  | .aud3 => i.aud.getLsbD 3
  | .bpl1 => i.bpl.getLsbD 0
  | .bpl2 => i.bpl.getLsbD 1
  | .bpl3 => i.bpl.getLsbD 2
  | .bpl4 => i.bpl.getLsbD 3
  | .bpl5 => i.bpl.getLsbD 4
  | .bpl6 => i.bpl.getLsbD 5
  | .spr0 => i.spr.getLsbD 0
  | .spr1 => i.spr.getLsbD 1
  | .spr2 => i.spr.getLsbD 2
  | .spr3 => i.spr.getLsbD 3
  | .spr4 => i.spr.getLsbD 4
  | .spr5 => i.spr.getLsbD 5
  | .spr6 => i.spr.getLsbD 6
  | .spr7 => i.spr.getLsbD 7
  | .copper => copperClaims s
  | .blitter => blitterClaims s

/-- The list without CPU, with CPU put back immediately after BLITTER (R143). -/
def cpuAfterBlitter (row : List Owner) : List Owner :=
  (row.filter (fun o => o != .cpu)).flatMap (fun o => if o = .blitter then [.blitter, .cpu] else [o])

/-- The effective candidate list of a position (R143). -/
def candidates (isNasty : Bool) (row : List Owner) : List Owner :=
  if isNasty && row.contains .cpu && row.contains .blitter then cpuAfterBlitter row else row

/-- The owner sub-step 4 grants the slot of the position reached (R145); `none` is an idle slot (R148). -/
def grantedOwner (i : CycleInputs) (s : State) : Option Owner :=
  (candidates (nasty s) (slotTable s.cfg s.line.toNat s.cycle.toNat)).find? (claims i s)

/-- Sub-step 4 (R145). -/
def arbitrate (i : CycleInputs) (s : State) : State := { s with agnus := { s.agnus with busOwner := grantedOwner i s } }

/-! ## Sub-steps 5 to 7 -/

/-- Sub-step 5 (R146): the callback of the owner, if it is COPPER or BLITTER. -/
def ownerCallback (s : State) : Out :=
  match s.agnus.busOwner with
  | some .copper => copperTick s
  | some .blitter => .next (stepOneWord s)
  | _ => .next s

/-- Sub-step 6 (R149): the CIA divider; when it expires both CIAs tick. -/
def divideCia (s : State) : State :=
  if s.agnus.ciaPhase + 1 = s.cfg.ciaDivider then
    { s with agnus := { s.agnus with ciaPhase := 0 }, ciaA := tickCia s.ciaA, ciaB := tickCia s.ciaB }
  else { s with agnus := { s.agnus with ciaPhase := s.agnus.ciaPhase + 1 } }

/-- Sub-step 7 (R150): the TOD pulses, A then B. -/
def deliverTod (i : CycleInputs) (s : State) : State :=
  { s with
    ciaA := if i.todPulseA then pulseTod s.cfg.todBits s.ciaA else s.ciaA
    ciaB := if i.todPulseB then pulseTod s.cfg.todBits s.ciaB else s.ciaB }

/-- Sub-steps 6 and 7 of `advanceOneCycle` (R135). -/
def endCycle (i : CycleInputs) (s : State) : State := deliverTod i (divideCia s)

/-- `advanceOneCycle(inputs)` (R135). A refusal inside the callback refuses the whole step (45_host.md R342). -/
def advanceOneCycle (i : CycleInputs) (s : State) : Out :=
  andThen (ownerCallback (arbitrate i (beginCycle i s))) (fun t => .next (endCycle i t))

end Sys2Proof.Machine
end

