-- ==== Sys2Proof/Machine/Snapshot.lean ====
section
/-! DEFINITION. The snapshot (45_host.md R347 to R354): which states the block can be in, and the reference codec of
R354, extended to every frame number, divider and TOD width so that law L1 holds of every state (log 11, log 12, log 13). -/

namespace Sys2Proof.Machine

/-! ## Which states the block can be in -/

/-- The raster position is inside the frame (10_state.md R23). -/
def positionLegal (s : State) : Bool := decide (s.line.toNat < numLines s.frame) && decide (s.cycle.toNat < Config.lineCycles)

/-- The Blitter's counters are inside their ranges (10_state.md R37), and its flags are those of R38. -/
def blitterLegal (b : Blitter) : Bool :=
  decide (b.width ≤ 64) && decide (b.height ≤ 1024) && decide (b.xCounter ≤ 64) && decide (b.yCounter ≤ 1024)
    && (!b.busyFlag
      || (decide (1 ≤ b.xCounter) && decide (b.xCounter ≤ b.width) && decide (1 ≤ b.yCounter)
        && decide (b.yCounter ≤ b.height) && b.firstWordFlag == decide (b.xCounter = b.width)
        && b.lastWordFlag == decide (b.xCounter = 1)))

/-- The TOD numbers have `bits` bits (10_state.md R45). -/
def todLegal (bits : Nat) (t : Tod) : Bool :=
  decide (t.value < 2 ^ bits) && decide (t.latch < 2 ^ bits) && decide (t.alarm < 2 ^ bits)

/-- The bits of a CIA that are always 0 (10_state.md R41, R43, R44), and its TOD numbers (R45). -/
def ciaLegal (bits : Nat) (x : Cia) : Bool :=
  !x.timerA.cr.getLsbD 4 && !x.timerB.cr.getLsbD 4 && x.ssr == 0 && x.icr &&& 0xE0 == 0 && x.imr &&& 0xE0 == 0
    && todLegal bits x.tod

/-- The mapper's state is 0, 1 or 2 and only base bits 23..16 can be 1 (10_state.md R48, 44_zorro.md R326). The board's
size is not looked at: that a snapshot with state 1 or 2 loads where no board is fitted, though R320 has the state stay 0
there, is the model's (DESIGN CHOICE, log 24). -/
def zorroLegal (z : Zorro) : Bool := decide (z.fastRamConfigState.toNat ≤ 2) && z.fastRamBaseAddress &&& 0xFF00FFFF == 0

/-- The spec's fields are in their ranges (10_state.md R23, R28, R37, R38, R41, R43, R44, R45, R48). -/
def fieldsLegal (s : State) : Bool :=
  positionLegal s && decide (s.agnus.ciaPhase < s.cfg.ciaDivider) && blitterLegal s.blt && ciaLegal s.cfg.todBits s.ciaA
    && ciaLegal s.cfg.todBits s.ciaB && zorroLegal s.zorro

/-- Both RAM arrays are in canonical form and inside their sizes (20_memory.md R72, 44_zorro.md R330). -/
def memoryLegal (s : State) : Bool :=
  s.chipRam.wf && s.chipRam.below s.cfg.chipRamSize && s.fastRam.wf && s.fastRam.below s.cfg.fastRamSize.bytes

/-! ## Writing fields -/

/-- A bool: one byte 0x00 or 0x01. -/
def putBool (b : Bool) : List Byte := [gated b 1]

/-- A value of fixed width in `k` bytes, big-endian. -/
def putBits {w : Nat} (k : Nat) (v : BitVec w) : List Byte := bigEndian k v.toNat

/-- The marker 0xFF..FF of eight bytes, which says that 2^64 - 1 more frames have gone by (log 11). -/
def seqMarker : Nat := 2 ^ 64 - 1

/-- `n` markers, then the rest. -/
def putMarkers (n : Nat) (rest : List Byte) : List Byte :=
  match n with
  | 0 => rest
  | k + 1 => bigEndian 8 seqMarker ++ putMarkers k rest

/-- `sequenceNumber` in eight bytes; a number of 2^64 - 1 or more has a marker for every 2^64 - 1 in it (log 11). -/
def putSeq (n : Nat) : List Byte := putMarkers (n / seqMarker) (bigEndian 8 (n % seqMarker))

/-- `busOwner`: 0 is none, 1 to 22 the position in `G` (R354). -/
def ownerCode (o : Option Owner) : Nat :=
  match o with
  | none => 0
  | some x => globalOrder.idxOf x + 1

/-- `activeListId`: 1 or 2. -/
def listIdCode : ListId → Nat
  | .one => 1
  | .two => 2

/-- Frame, 10 bytes. -/
def putFrame (f : Frame) : List Byte :=
  putSeq f.sequenceNumber ++ putBool f.isLongFrame ++ putBool f.wasLongFramePrev

/-- The bytes `ciaPhase` has: the two of R354, or more where a divider above 65536 needs them (log 11). -/
def phaseBytes (cfg : Config) : Nat := max 2 (Nat.log2 (cfg.ciaDivider - 1) / 8 + 1)

/-- The bytes a TOD number has: the three of R354 for 24 bits (log 11). -/
def todBytes (cfg : Config) : Nat := (cfg.todBits + 7) / 8

/-- Agnus, 9 bytes for a divider up to 65536. -/
def putAgnus (cfg : Config) (a : Agnus) : List Byte :=
  putBool a.interlaceEnabled ++ putBool a.hblank ++ putBool a.hsync ++ putBool a.frameStart ++ putBits 2 a.dmacon
    ++ bigEndian 1 (ownerCode a.busOwner) ++ bigEndian (phaseBytes cfg) a.ciaPhase

/-- Copper, 20 bytes. -/
def putCopper (c : Copper) : List Byte :=
  putBits 4 c.programCounter ++ putBits 4 c.list1Base ++ putBits 4 c.list2Base ++ bigEndian 1 (listIdCode c.activeListId)
    ++ putBool c.cdang ++ putBool c.active ++ putBool c.waiting ++ putBits 2 c.ir1 ++ putBits 2 c.lastInstructionWord

/-- Blitter registers: control, masks, pointers, modulos. -/
def putBlitterRegs (b : Blitter) : List Byte :=
  putBits 2 b.control0 ++ putBits 2 b.control1 ++ putBits 2 b.firstMask ++ putBits 2 b.lastMask
    ++ putBits 4 b.ptrA ++ putBits 4 b.ptrB ++ putBits 4 b.ptrC ++ putBits 4 b.ptrD
    ++ putBits 2 b.modA ++ putBits 2 b.modB ++ putBits 2 b.modC ++ putBits 2 b.modD

/-- Blitter data, flags and counters. -/
def putBlitterData (b : Blitter) : List Byte :=
  putBits 2 b.holdA ++ putBits 2 b.holdB ++ putBits 2 b.holdC ++ putBits 2 b.holdD ++ putBits 2 b.aOld ++ putBits 2 b.bOld
    ++ putBool b.busyFlag ++ putBool b.zeroFlag ++ putBool b.firstWordFlag ++ putBool b.lastWordFlag ++ putBool b.fillCarry
    ++ bigEndian 1 b.width ++ bigEndian 2 b.height ++ bigEndian 1 b.xCounter ++ bigEndian 2 b.yCounter

/-- A CIA port, 3 bytes. -/
def putPort (p : Port) : List Byte := putBits 1 p.port ++ putBits 1 p.register ++ putBits 1 p.direction

/-- A CIA timer, 7 bytes. -/
def putTimer (t : Timer) : List Byte :=
  putBits 2 t.count ++ putBits 2 t.latch ++ putBits 1 t.cr ++ putBool t.toggleOutput ++ putBool t.pulseOutput

/-- A TOD counter, its latch and its alarm. -/
def putTod (cfg : Config) (t : Tod) : List Byte :=
  bigEndian (todBytes cfg) t.value ++ bigEndian (todBytes cfg) t.latch ++ bigEndian (todBytes cfg) t.alarm

/-- A CIA, 36 bytes for a TOD of 24 bits. -/
def putCia (cfg : Config) (x : Cia) : List Byte :=
  putPort x.portA ++ putPort x.portB ++ putTimer x.timerA ++ putTimer x.timerB ++ putBits 1 x.sdr ++ putBits 1 x.ssr
    ++ putBits 1 x.icr ++ putBits 1 x.imr ++ putBool x.irq ++ putTod cfg x.tod
    ++ putBool x.todLatched ++ putBool x.todStopped

/-- Zorro, 5 bytes. -/
def putZorro (z : Zorro) : List Byte := putBits 1 z.fastRamConfigState ++ putBits 4 z.fastRamBaseAddress

/-- Every byte of chip RAM. -/
def chipContents (s : State) : List Byte := (List.range s.cfg.chipRamSize).map (chipByte s)

/-- Every byte of Fast RAM. -/
def fastContents (s : State) : List Byte := (List.range s.cfg.fastRamSize.bytes).map (fastByte s)

/-- `encode(s)` (R347): the fields in the order of R354. -/
def encodeState (s : State) : List Byte :=
  putFrame s.frame ++ putBits 2 s.line ++ putBits 1 s.cycle ++ putAgnus s.cfg s.agnus ++ putCopper s.cop
    ++ putBlitterRegs s.blt ++ putBlitterData s.blt ++ putCia s.cfg s.ciaA ++ putCia s.cfg s.ciaB ++ putZorro s.zorro
    ++ chipContents s ++ fastContents s

/-- `|encode(s)|` (R348): 174 bytes with a divider up to 65536 and a TOD of 24 bits, the RAM sizes, and eight bytes for
every marker of the frame number. -/
def snapshotSize (s : State) : Nat :=
  154 + phaseBytes s.cfg + 6 * todBytes s.cfg + s.cfg.chipRamSize + s.cfg.fastRamSize.bytes + 8 * (s.frame.sequenceNumber / seqMarker)

/-! ## Reading fields: the value and the bytes after it, or failure -/

/-- `k` bytes as they are. -/
def getBytes (k : Nat) (bs : List Byte) : Option (List Byte × List Byte) :=
  if k ≤ bs.length then some (bs.take k, bs.drop k) else none

/-- A number in `k` bytes. -/
def getNat (k : Nat) (bs : List Byte) : Option (Nat × List Byte) := (getBytes k bs).map (fun p => (ofBigEndian p.1, p.2))

/-- A value of width `w` in `k` bytes; failure if it does not fit. -/
def getBits (w k : Nat) (bs : List Byte) : Option (BitVec w × List Byte) :=
  match getNat k bs with
  | some (n, rest) => if n < 2 ^ w then some (BitVec.ofNat w n, rest) else none
  | none => none

/-- A bool; failure if the byte is neither 0 nor 1 (R354). -/
def getBool (bs : List Byte) : Option (Bool × List Byte) :=
  match bs with
  | b :: rest => if b = 0 then some (false, rest) else if b = 1 then some (true, rest) else none
  | [] => none

/-- `sequenceNumber`; `fuel` bounds the number of markers by the length of the buffer. -/
def getSeq (fuel : Nat) (bs : List Byte) : Option (Nat × List Byte) :=
  match getNat 8 bs with
  | none => none
  | some (n, rest) =>
    if n = seqMarker then
      match fuel with
      | 0 => none
      | k + 1 => (getSeq k rest).map (fun p => (p.1 + seqMarker, p.2))
    else some (n, rest)

/-- The owner of a code; failure above 22. -/
def ownerOfCode (n : Nat) : Option (Option Owner) :=
  match n with
  | 0 => some none
  | k + 1 => (globalOrder[k]?).map some

/-- The list of a code; failure if it is neither 1 nor 2. -/
def listIdOfCode (n : Nat) : Option ListId :=
  match n with
  | 1 => some .one
  | 2 => some .two
  | _ => none

/-- The frame. -/
def getFrame (bs : List Byte) : Option (Frame × List Byte) := do
  let (n, bs) ← getSeq bs.length bs
  let (l, bs) ← getBool bs
  let (p, bs) ← getBool bs
  return ({ sequenceNumber := n, isLongFrame := l, wasLongFramePrev := p }, bs)

/-- Agnus. -/
def getAgnus (cfg : Config) (bs : List Byte) : Option (Agnus × List Byte) := do
  let (i, bs) ← getBool bs
  let (hb, bs) ← getBool bs
  let (hs, bs) ← getBool bs
  let (fs, bs) ← getBool bs
  let (d, bs) ← getBits 11 2 bs
  let (o, bs) ← getNat 1 bs
  let owner ← ownerOfCode o
  let (ph, bs) ← getNat (phaseBytes cfg) bs
  return ({ interlaceEnabled := i, hblank := hb, hsync := hs, frameStart := fs, dmacon := d, busOwner := owner,
            ciaPhase := ph }, bs)

/-- The Copper. -/
def getCopper (bs : List Byte) : Option (Copper × List Byte) := do
  let (pc, bs) ← getBits 32 4 bs
  let (b1, bs) ← getBits 32 4 bs
  let (b2, bs) ← getBits 32 4 bs
  let (n, bs) ← getNat 1 bs
  let id ← listIdOfCode n
  let (cd, bs) ← getBool bs
  let (ac, bs) ← getBool bs
  let (wa, bs) ← getBool bs
  let (i1, bs) ← getBits 16 2 bs
  let (i2, bs) ← getBits 16 2 bs
  return ({ programCounter := pc, list1Base := b1, list2Base := b2, activeListId := id, cdang := cd, active := ac,
            waiting := wa, ir1 := i1, lastInstructionWord := i2 }, bs)

/-- The Blitter's control, masks, pointers and modulos, into a Blitter. -/
def getBlitterRegs (b : Blitter) (bs : List Byte) : Option (Blitter × List Byte) := do
  let (c0, bs) ← getBits 16 2 bs
  let (c1, bs) ← getBits 16 2 bs
  let (fm, bs) ← getBits 16 2 bs
  let (lm, bs) ← getBits 16 2 bs
  let (pa, bs) ← getBits 32 4 bs
  let (pb, bs) ← getBits 32 4 bs
  let (pc, bs) ← getBits 32 4 bs
  let (pd, bs) ← getBits 32 4 bs
  let (ma, bs) ← getBits 16 2 bs
  let (mb, bs) ← getBits 16 2 bs
  let (mc, bs) ← getBits 16 2 bs
  let (md, bs) ← getBits 16 2 bs
  return ({ b with
    control0 := c0, control1 := c1, firstMask := fm, lastMask := lm, ptrA := pa, ptrB := pb, ptrC := pc, ptrD := pd,
    modA := ma, modB := mb, modC := mc, modD := md }, bs)

/-- The Blitter's data, flags and counters, into a Blitter. -/
def getBlitterData (b : Blitter) (bs : List Byte) : Option (Blitter × List Byte) := do
  let (ha, bs) ← getBits 16 2 bs
  let (hb, bs) ← getBits 16 2 bs
  let (hc, bs) ← getBits 16 2 bs
  let (hd, bs) ← getBits 16 2 bs
  let (ao, bs) ← getBits 16 2 bs
  let (bo, bs) ← getBits 16 2 bs
  let (bf, bs) ← getBool bs
  let (zf, bs) ← getBool bs
  let (ff, bs) ← getBool bs
  let (lf, bs) ← getBool bs
  let (fc, bs) ← getBool bs
  let (w, bs) ← getNat 1 bs
  let (h, bs) ← getNat 2 bs
  let (x, bs) ← getNat 1 bs
  let (y, bs) ← getNat 2 bs
  return ({ b with
    holdA := ha, holdB := hb, holdC := hc, holdD := hd, aOld := ao, bOld := bo, busyFlag := bf, zeroFlag := zf,
    firstWordFlag := ff, lastWordFlag := lf, fillCarry := fc, width := w, height := h, xCounter := x, yCounter := y }, bs)

/-- A port. -/
def getPort (bs : List Byte) : Option (Port × List Byte) := do
  let (p, bs) ← getBits 8 1 bs
  let (r, bs) ← getBits 8 1 bs
  let (d, bs) ← getBits 8 1 bs
  return ({ port := p, register := r, direction := d }, bs)

/-- A timer. -/
def getTimer (bs : List Byte) : Option (Timer × List Byte) := do
  let (c, bs) ← getBits 16 2 bs
  let (l, bs) ← getBits 16 2 bs
  let (r, bs) ← getBits 8 1 bs
  let (t, bs) ← getBool bs
  let (p, bs) ← getBool bs
  return ({ count := c, latch := l, cr := r, toggleOutput := t, pulseOutput := p }, bs)

/-- A CIA's TOD counter, its latch and its alarm. -/
def getTod (cfg : Config) (bs : List Byte) : Option (Tod × List Byte) := do
  let (v, bs) ← getNat (todBytes cfg) bs
  let (l, bs) ← getNat (todBytes cfg) bs
  let (a, bs) ← getNat (todBytes cfg) bs
  return ({ value := v, latch := l, alarm := a }, bs)

/-- A CIA. -/
def getCiaState (cfg : Config) (bs : List Byte) : Option (Cia × List Byte) := do
  let (pa, bs) ← getPort bs
  let (pb, bs) ← getPort bs
  let (ta, bs) ← getTimer bs
  let (tb, bs) ← getTimer bs
  let (sd, bs) ← getBits 8 1 bs
  let (ss, bs) ← getBits 8 1 bs
  let (ic, bs) ← getBits 8 1 bs
  let (im, bs) ← getBits 8 1 bs
  let (ir, bs) ← getBool bs
  let (td, bs) ← getTod cfg bs
  let (la, bs) ← getBool bs
  let (st, bs) ← getBool bs
  return ({ portA := pa, portB := pb, timerA := ta, timerB := tb, sdr := sd, ssr := ss, icr := ic, imr := im, irq := ir,
            tod := td, todLatched := la, todStopped := st }, bs)

/-- The Zorro mapper. -/
def getZorro (bs : List Byte) : Option (Zorro × List Byte) := do
  let (c, bs) ← getBits 8 1 bs
  let (b, bs) ← getBits 32 4 bs
  return ({ fastRamConfigState := c, fastRamBaseAddress := b }, bs)

/-- The memory that lists the bytes at `a`, `a + 1`, and so on. -/
def Memory.ofBytes (a : Nat) (bs : List Byte) : Memory :=
  match bs with
  | [] => []
  | b :: rest => (a, b) :: Memory.ofBytes (a + 1) rest

/-- All fields of a buffer put into `s`, and the bytes after them. The configuration, the pending operations, the
event list, the result and `epoch` are not in a snapshot (R347). -/
def getState (s : State) (bs : List Byte) : Option (State × List Byte) := do
  let (fr, bs) ← getFrame bs
  let (ln, bs) ← getBits 9 2 bs
  let (cy, bs) ← getBits 8 1 bs
  let (ag, bs) ← getAgnus s.cfg bs
  let (co, bs) ← getCopper bs
  let (br, bs) ← getBlitterRegs Blitter.reset bs
  let (bl, bs) ← getBlitterData br bs
  let (ca, bs) ← getCiaState s.cfg bs
  let (cb, bs) ← getCiaState s.cfg bs
  let (zo, bs) ← getZorro bs
  let (ch, bs) ← getBytes s.cfg.chipRamSize bs
  let (fa, bs) ← getBytes s.cfg.fastRamSize.bytes bs
  return ({ s with
    frame := fr, line := ln, cycle := cy, agnus := ag, cop := co, blt := bl, ciaA := ca, ciaB := cb, zorro := zo,
    chipRam := Memory.ofBytes 0 ch, fastRam := Memory.ofBytes 0 fa }, bs)

/-- `decode(b)` (R347): the state and the number of bytes it took; failure for a buffer that does not begin with the
encoding of a state the block can be in (R354; log 12). -/
def decodeState (s : State) (bs : List Byte) : Option (State × Nat) :=
  match getState s bs with
  | some (t, rest) => if fieldsLegal t then some (t, bs.length - rest.length) else none
  | none => none

end Sys2Proof.Machine
end

