-- ==== Sys2Proof/Machine/Zorro.lean ====
section
/-! DEFINITION. The Zorro mapper (44_zorro.md): the autoconfig ROM, the autoconfig read, the three configuring
writes and the Fast RAM window. -/

namespace Sys2Proof.Machine

open Host (Outcome)

/-- Byte `k` of the board's 16-byte descriptor (R323). -/
def descriptorByte (cfg : Config) (k : Nat) : Byte :=
  match k with
  | 0 => 0xE0 ||| cfg.fastRamSize.code.setWidth 8
  | 1 => cfg.zorroProduct
  | 2 => 0x80
  | 4 => wordHi cfg.zorroManufacturer
  | 5 => wordLo cfg.zorroManufacturer
  | 6 => wordHi (longHi cfg.zorroSerial)
  | 7 => wordLo (longHi cfg.zorroSerial)
  | 8 => wordHi (longLo cfg.zorroSerial)
  | 9 => wordLo (longLo cfg.zorroSerial)
  | _ => 0x00

/-- The nybble presented at an even offset below 0x40 (R323): high nybble at `4k`, low nybble at `4k + 2`; inverted
but for the type byte. -/
def romNybble (cfg : Config) (off : Nat) : BitVec 4 :=
  let b := descriptorByte cfg (off / 4)
  let nyb : BitVec 4 := if off % 4 = 0 then b.extractLsb' 4 4 else b.extractLsb' 0 4
  if off / 4 = 0 then nyb else nyb ^^^ 0xF

/-- The default `AUTOCONFIG_ROM` (R323, R324). -/
def defaultRom (cfg : Config) (off : Nat) : Byte :=
  if off % 2 = 1 ∨ 0x40 ≤ off then 0xFF else romNybble cfg off ++ 0xF#4

/-- `AUTOCONFIG_ROM(off)`: the configuration's own byte for the offset, else the default (R6, R322). That a configured
byte also wins at an odd offset and at 0x40 and above, where R324 gives 0xFF, is the model's (DESIGN CHOICE, log 22). -/
def autoconfigRom (cfg : Config) (off : Nat) : Byte := (Memory.find cfg.romRows off).getD (defaultRom cfg off)

/-- `fastRamBaseAddress[23:20] <- v[7:4]`. -/
def setBaseHi (base : Long) (v : Byte) : Long :=
  ((base.extractLsb' 24 8 : BitVec 8) ++ (v.extractLsb' 4 4 : BitVec 4) : BitVec 12) ++ (base.extractLsb' 0 20 : BitVec 20)

/-- `fastRamBaseAddress[19:16] <- v[7:4]`. -/
def setBaseLo (base : Long) (v : Byte) : Long :=
  ((base.extractLsb' 20 12 : BitVec 12) ++ (v.extractLsb' 4 4 : BitVec 4) : BitVec 16) ++ (base.extractLsb' 0 16 : BitVec 16)

/-- The CPU-space address of an autoconfig offset, in 24 bits. -/
def autoconfigAddr (cfg : Config) (off : BitVec 16) : Nat := cpuAddr (autoconfigBase cfg.addressMap + off.toNat)

/-- A Fast RAM read at a CPU-space address inside the window (R330). -/
def readFastAt (s : State) (a : Nat) : State :=
  setResult s (.byte (fastByte s (a - s.zorro.fastRamBaseAddress.toNat)))

/-- A Fast RAM write at a CPU-space address inside the window (R330). -/
def writeFastAt (s : State) (a : Nat) (v : Byte) : State :=
  setFastByte s (a - s.zorro.fastRamBaseAddress.toNat) v

/-- A write of the autoconfig window when it is not mapped (R331): Fast RAM if that covers the address, else
unmapped. -/
def writeUnmappedWindow (s : State) (off : BitVec 16) (v : Byte) : State :=
  if inFastRam s (autoconfigAddr s.cfg off) then writeFastAt s (autoconfigAddr s.cfg off) v
  else raiseUnmapped s (BitVec.ofNat 24 (autoconfigAddr s.cfg off)) .write

/-- Autoconfig read (R322, R324): a byte of the ROM, no side effect. With the window not mapped, R331. -/
def execAutoconfRead (off : BitVec 16) (s : State) : Out :=
  if autoconfigMapped s then .next (setResult s (.byte (autoconfigRom s.cfg off.toNat)))
  else if inFastRam s (autoconfigAddr s.cfg off) then .next (readFastAt s (autoconfigAddr s.cfg off))
  else .next (raiseUnmapped s (BitVec.ofNat 24 (autoconfigAddr s.cfg off)) .read)

/-- Poke of offset 0x48, the base address high nybble (R326): it configures. -/
def execAutoconfBaseHi (v : Byte) (s : State) : Out :=
  if autoconfigMapped s then
    .next { s with
      zorro := { fastRamBaseAddress := setBaseHi s.zorro.fastRamBaseAddress v, fastRamConfigState := 1 } }
  else .next (writeUnmappedWindow s 0x48 v)

/-- Poke of offset 0x4A, the base address low nybble (R327): the state stays 0. -/
def execAutoconfBaseLo (v : Byte) (s : State) : Out :=
  if autoconfigMapped s then
    .next { s with zorro := { s.zorro with fastRamBaseAddress := setBaseLo s.zorro.fastRamBaseAddress v } }
  else .next (writeUnmappedWindow s 0x4A v)

/-- Poke of offset 0x4C, shut-up (R328): the value is ignored. -/
def execAutoconfShutup (v : Byte) (s : State) : Out :=
  if autoconfigMapped s then .next { s with zorro := { s.zorro with fastRamConfigState := 2 } }
  else .next (writeUnmappedWindow s 0x4C v)

/-- A poke of any offset of the mapped window (R325, R329). -/
def autoconfigWrite (off : BitVec 16) (v : Byte) (s : State) : Out :=
  match off.toNat with
  | 0x48 => execAutoconfBaseHi v s
  | 0x4A => execAutoconfBaseLo v s
  | 0x4C => execAutoconfShutup v s
  | _ => .next s

end Sys2Proof.Machine
end

