-- ==== Sys2Proof/Machine/HostOps.lean ====
section
/-! DEFINITION. The nine host operations (45_host.md R341 to R350). -/

namespace Sys2Proof.Machine

open Host (Outcome)

/-- RESET (R341): every field takes its reset value (10_state.md R59); a hard reset also clears the Zorro mapper and
leaves RAM with contents of its own (R60, R61), a soft one leaves all three. -/
def execReset (hard : Bool) (s : State) : Out :=
  .next { s with
    frame := Frame.reset, line := 0, cycle := 0, agnus := Agnus.reset, cop := Copper.reset, blt := Blitter.reset,
    ciaA := Cia.reset, ciaB := Cia.reset
    zorro := if hard then Zorro.reset else s.zorro
    chipRam := if hard then [] else s.chipRam
    fastRam := if hard then [] else s.fastRam
    epoch := if hard then s.epoch + 1 else s.epoch }

/-- ADVANCE (R342): `advanceOneCycle(inputs)`. -/
def execAdvance (inputs : CycleInputs) (s : State) : Out := advanceOneCycle inputs s

/-- A read that found no value: unmapped (60_exceptions.md R371). -/
def orUnmapped (o : Out) (s : State) (a : Nat) : Out :=
  match o with
  | .next t => if t.result = .noValue then .next (raiseUnmapped s (BitVec.ofNat 24 a) .read) else .next t
  | .fault r => .fault r
  | .refused r => .refused r

/-- The byte of a chipset register seen through CPU space: bits 15..8 at the even address (20_memory.md R73), which in
the default map is even as a CPU address and as an offset. In a map whose register row has an odd base the offset from
that base decides (DESIGN CHOICE, log 23). -/
def registerByte (w : Word) (a : RegAddr) : Byte := if a.getLsbD 0 then wordLo w else wordHi w

/-- A read of the region a CPU-space address selects. -/
def readRegion (r : Region) (a : Nat) (s : State) : Out :=
  match r with
  | .chip offset => .next (setResult s (.byte (chipByte s offset)))
  | .cia c n => orUnmapped (ciaRead c n s) s a
  | .reg r =>
    match regRead r s with
    | some w => .next (setResult s (.byte (registerByte w r)))
    | none => .next (raiseUnmapped s (BitVec.ofNat 24 a) .read)
  | .autoconfig off => .next (setResult s (.byte (autoconfigRom s.cfg off.toNat)))
  | .fastRam offset => .next (setResult s (.byte (fastByte s offset)))
  | .unmapped => .next (raiseUnmapped s (BitVec.ofNat 24 a) .read)
  | .outside => .refused .accessOutsideBlock

/-- A write of the region a CPU-space address selects. -/
def writeRegion (r : Region) (a : Nat) (v : Byte) (s : State) : Out :=
  match r with
  | .chip offset => .next (setChipByte s offset v)
  | .cia c n => ciaWrite c n v s
  | .reg _ => .refused .byteWriteToChipsetRegister
  | .autoconfig off => autoconfigWrite off v s
  | .fastRam offset => .next (setFastByte s offset v)
  | .unmapped => .next (raiseUnmapped s (BitVec.ofNat 24 a) .write)
  | .outside => .refused .accessOutsideBlock

/-- PEEK (R343): an architectural read, side effects included (20_memory.md R84). -/
def execPeek (addr : Nat) (s : State) : Out := readRegion (regionOf s (cpuAddr addr)) (cpuAddr addr) s

/-- POKE (R344). -/
def execPoke (addr : Nat) (v : Byte) (s : State) : Out :=
  writeRegion (regionOf s (cpuAddr addr)) (cpuAddr addr) v s

/-- SNAPSIZE (R348). -/
def execSnapsize (s : State) : Out := .next (setResult s (.size (snapshotSize s)))

/-- SNAPSAVE (R349): refused where the buffer is too small, else it gives the bytes and their number. -/
def execSnapsave (cap : Nat) (s : State) : Out :=
  if cap < snapshotSize s then .refused .snapshotBufferTooSmall
  else .next (setResult s (.saved (snapshotSize s) (encodeState s)))

/-- SNAPLOAD (R350): the whole state, or nothing and the diagnostic SnapshotLoadFailure. -/
def execSnapload (buffer : List Byte) (s : State) : Out :=
  match decodeState s buffer with
  | some (t, n) => .next (setResult t (.consumed n))
  | none => .next (setResult (emit s .snapshotLoadFailure) (.consumed 0))

/-- REGWRITE (R345): the host is not subject to the Copper's allow-list. -/
def execRegwrite (a : RegAddr) (v : Word) (s : State) : Out := regWrite .host a v s

/-- REGREAD (R346). -/
def execRegread (a : RegAddr) (s : State) : Out :=
  match regRead a s with
  | some w => .next (setResult s (.word w))
  | none => .next (raiseUnmapped s (BitVec.ofNat 24 (regsBase s.cfg.addressMap + regIndex a)) .read)

end Sys2Proof.Machine
end

