-- ==== Sys2Proof/Machine/Dispatch.lean ====
section
/-! DEFINITION. exec: one arm per instruction, one meaning per arm. -/

namespace Sys2Proof.Machine

def exec (i : Instr) (s : State) : Host.Outcome State Fault Refusal :=
  match i with
  | .move ra dw => Sys2Proof.Machine.execMove ra dw s
  | .wait t => Sys2Proof.Machine.execWait t s
  | .skip t => Sys2Proof.Machine.execSkip t s
  | .reset hard => Sys2Proof.Machine.execReset hard s
  | .advance inputs => Sys2Proof.Machine.execAdvance inputs s
  | .peek addr => Sys2Proof.Machine.execPeek addr s
  | .poke addr v => Sys2Proof.Machine.execPoke addr v s
  | .snapsize => Sys2Proof.Machine.execSnapsize s
  | .snapsave cap => Sys2Proof.Machine.execSnapsave cap s
  | .snapload buffer => Sys2Proof.Machine.execSnapload buffer s
  | .regwrite a v => Sys2Proof.Machine.execRegwrite a v s
  | .regread a => Sys2Proof.Machine.execRegread a s
  | .dmaconr => Sys2Proof.Machine.execDmaconr s
  | .vposr => Sys2Proof.Machine.execVposr s
  | .vhposr => Sys2Proof.Machine.execVhposr s
  | .vposw src v => Sys2Proof.Machine.execVposw src v s
  | .vhposw src v => Sys2Proof.Machine.execVhposw src v s
  | .copcon src v => Sys2Proof.Machine.execCopcon src v s
  | .bltcon0 src v => Sys2Proof.Machine.execBltcon0 src v s
  | .bltcon1 src v => Sys2Proof.Machine.execBltcon1 src v s
  | .bltafwm src v => Sys2Proof.Machine.execBltafwm src v s
  | .bltalwm src v => Sys2Proof.Machine.execBltalwm src v s
  | .bltcpth src v => Sys2Proof.Machine.execBltcpth src v s
  | .bltcptl src v => Sys2Proof.Machine.execBltcptl src v s
  | .bltbpth src v => Sys2Proof.Machine.execBltbpth src v s
  | .bltbptl src v => Sys2Proof.Machine.execBltbptl src v s
  | .bltapth src v => Sys2Proof.Machine.execBltapth src v s
  | .bltaptl src v => Sys2Proof.Machine.execBltaptl src v s
  | .bltdpth src v => Sys2Proof.Machine.execBltdpth src v s
  | .bltdptl src v => Sys2Proof.Machine.execBltdptl src v s
  | .bltsize src v => Sys2Proof.Machine.execBltsize src v s
  | .bltcmod src v => Sys2Proof.Machine.execBltcmod src v s
  | .bltbmod src v => Sys2Proof.Machine.execBltbmod src v s
  | .bltamod src v => Sys2Proof.Machine.execBltamod src v s
  | .bltdmod src v => Sys2Proof.Machine.execBltdmod src v s
  | .bltcdat src v => Sys2Proof.Machine.execBltcdat src v s
  | .bltbdat src v => Sys2Proof.Machine.execBltbdat src v s
  | .bltadat src v => Sys2Proof.Machine.execBltadat src v s
  | .cop1lch src v => Sys2Proof.Machine.execCop1lch src v s
  | .cop1lcl src v => Sys2Proof.Machine.execCop1lcl src v s
  | .cop2lch src v => Sys2Proof.Machine.execCop2lch src v s
  | .cop2lcl src v => Sys2Proof.Machine.execCop2lcl src v s
  | .copjmp1 src v => Sys2Proof.Machine.execCopjmp1 src v s
  | .copjmp2 src v => Sys2Proof.Machine.execCopjmp2 src v s
  | .dmacon src v => Sys2Proof.Machine.execDmacon src v s
  | .bplcon0 src v => Sys2Proof.Machine.execBplcon0 src v s
  | .praR c => Sys2Proof.Machine.execPraR c s
  | .prbR c => Sys2Proof.Machine.execPrbR c s
  | .ddraR c => Sys2Proof.Machine.execDdraR c s
  | .ddrbR c => Sys2Proof.Machine.execDdrbR c s
  | .taloR c => Sys2Proof.Machine.execTaloR c s
  | .tahiR c => Sys2Proof.Machine.execTahiR c s
  | .tbloR c => Sys2Proof.Machine.execTbloR c s
  | .tbhiR c => Sys2Proof.Machine.execTbhiR c s
  | .todloR c => Sys2Proof.Machine.execTodloR c s
  | .todmidR c => Sys2Proof.Machine.execTodmidR c s
  | .todhiR c => Sys2Proof.Machine.execTodhiR c s
  | .regbR c => Sys2Proof.Machine.execRegbR c s
  | .sdrR c => Sys2Proof.Machine.execSdrR c s
  | .icrR c => Sys2Proof.Machine.execIcrR c s
  | .craR c => Sys2Proof.Machine.execCraR c s
  | .crbR c => Sys2Proof.Machine.execCrbR c s
  | .praW c v => Sys2Proof.Machine.execPraW c v s
  | .prbW c v => Sys2Proof.Machine.execPrbW c v s
  | .ddraW c v => Sys2Proof.Machine.execDdraW c v s
  | .ddrbW c v => Sys2Proof.Machine.execDdrbW c v s
  | .taloW c v => Sys2Proof.Machine.execTaloW c v s
  | .tahiW c v => Sys2Proof.Machine.execTahiW c v s
  | .tbloW c v => Sys2Proof.Machine.execTbloW c v s
  | .tbhiW c v => Sys2Proof.Machine.execTbhiW c v s
  | .todloW c v => Sys2Proof.Machine.execTodloW c v s
  | .todmidW c v => Sys2Proof.Machine.execTodmidW c v s
  | .todhiW c v => Sys2Proof.Machine.execTodhiW c v s
  | .regbW c v => Sys2Proof.Machine.execRegbW c v s
  | .sdrW c v => Sys2Proof.Machine.execSdrW c v s
  | .imrW c v => Sys2Proof.Machine.execImrW c v s
  | .craW c v => Sys2Proof.Machine.execCraW c v s
  | .crbW c v => Sys2Proof.Machine.execCrbW c v s
  | .autoconfRead off => Sys2Proof.Machine.execAutoconfRead off s
  | .autoconfBaseHi v => Sys2Proof.Machine.execAutoconfBaseHi v s
  | .autoconfBaseLo v => Sys2Proof.Machine.execAutoconfBaseLo v s
  | .autoconfShutup v => Sys2Proof.Machine.execAutoconfShutup v s

end Sys2Proof.Machine
end

