-- ==== Sys2Proof/Machine/Fetch.lean ====
section
/-! DEFINITION. Fetching: the next host operation the port accepts (45_host.md R340, R351), and how a word of the
opcode table is put where the next step takes it (log 1, log 4). -/

namespace Sys2Proof.Machine

open Host (Outcome)

/-- The refusal of a request that does not decode: a reserved code by the spec's own name (30_encoding.md R124), any
other by the model's (log 5). -/
def refusalOf (e : DecodeError) : Refusal :=
  match e with
  | .reservedHostOp => .reservedHostOp
  | .truncated => .malformedRequest .truncated
  | .noSuchRow => .malformedRequest .noSuchRow

/-- What the port makes of a request: an operation, or its refusal. What only the Copper drives is no request
(41_copper.md R170; log 5). -/
def acceptRequest (e : Encoded) : Except Refusal Instr :=
  match decode e with
  | .error err => .error (refusalOf err)
  | .ok i => if i.byCopper then .error .copperOperationAtPort else .ok i

/-- The next operation, if one is pending. -/
def fetch (s : State) : Option (Except Refusal Instr) :=
  match s.requests with
  | [] => none
  | e :: _ => some (acceptRequest e)

/-- The state in which the fetched operation runs: it has left the pending list and the event list is empty (R340). -/
def enterOperation (s : State) : State := startOperation s s.requests.tail

/-- A Copper instruction where the Copper takes its next one: its bytes in chip RAM at the program counter, the Copper
armed, its DMA on, and an ADVANCE pending, which is the operation that runs it (41_copper.md R172 to R175). -/
def placeCopperWord (s : State) (w : Nat) : State :=
  let t := chipWrite16 (chipWrite16 s s.cop.programCounter (BitVec.ofNat 16 (w / 2 ^ 16)))
    (s.cop.programCounter + 2) (BitVec.ofNat 16 w)
  { t with
    cop := { t.cop with active := true, waiting := false }
    agnus := { t.agnus with dmacon := t.agnus.dmacon ||| 0x280 }
    requests := [encode (.advance CycleInputs.quiet)] }

/-- Any other word of the table as the next request, in the first of its formats that decodes it (log 4). -/
def placeRequestWord (s : State) (nbits w : Nat) : State :=
  match firstDecoded (formatsOfWidth nbits) w with
  | some (e, _) => { s with requests := [e] }
  | none => { s with requests := [tableEncoded ((formatsOfWidth nbits).headD .host) w] }

/-- The table word where the next step takes it. -/
def placeWord (s : State) (nbits w : Nat) : State :=
  if formatsOfWidth nbits = [.copper] then placeCopperWord s w else placeRequestWord s nbits w

end Sys2Proof.Machine
end

