-- ==== Sys2Proof/Machine/Step.lean ====
section
/-! DEFINITION. The step: one host operation (00_scope.md R12). -/

namespace Sys2Proof.Machine

open Host (Outcome)

/-- One step runs the next pending host operation, whole and alone (45_host.md R340, R351). With none pending nothing
happens: "cancellation is 'stop calling advance'" (R342, R388). -/
def step (s : State) : Outcome State Fault Refusal :=
  match fetch s with
  | none => .next s
  | some (.error r) => .refused r
  | some (.ok i) => exec i (enterOperation s)

/-- `s` with the word of spec/opcode_table.json where the next step takes its operation (log 1, log 4). -/
def State.withFetchWord (s : State) (nbits w : Nat) : State := placeWord s nbits w

end Sys2Proof.Machine
end

