-- ==== Sys2Proof/Safety.lean ====
section
/-! DEFINITION. What counts as a legal state and a run, in the terms the statements use. -/

namespace Sys2Proof.Machine

open Host (Outcome)

/-- The invariant of the machine: a valid configuration (40_agnus.md R142, 60_exceptions.md R373), every field in its
range (10_state.md R23, R28, R37, R38, R41, R43, R44, R48), both RAM arrays in canonical form inside their sizes. -/
def State.Inv (s : State) : Prop := s.cfg.valid = true ∧ fieldsLegal s = true ∧ memoryLegal s = true

/-- The fields of the spec's own state (10_state.md R20) agree; RAM agrees byte by byte inside its size, whatever
bytes either state lists (log 13). -/
def sameMachine (s t : State) : Prop :=
  s.frame = t.frame ∧ s.line = t.line ∧ s.cycle = t.cycle ∧ s.agnus = t.agnus ∧ s.cop = t.cop ∧ s.blt = t.blt
    ∧ s.ciaA = t.ciaA ∧ s.ciaB = t.ciaB ∧ s.zorro = t.zorro
    ∧ (∀ a, a < s.cfg.chipRamSize → chipByte s a = chipByte t a)
    ∧ (∀ a, a < s.cfg.fastRamSize.bytes → fastByte s a = fastByte t a)

/-- ADVANCE for each of the inputs in turn; a refusal ends the run. -/
def advances (is : List CycleInputs) (s : State) : Out :=
  match is with
  | [] => .next s
  | i :: rest => andThen (exec (.advance i) s) (advances rest)

/-- The state sub-step 4 of a cycle arbitrates from: sub-steps 0 to 3 are done, the owner is written (40_agnus.md R135). -/
def reached (i : CycleInputs) (s : State) : State := arbitrate i (beginCycle i s)

/-- The twenty Blitter registers (30_encoding.md R110: 0x040 to 0x074 of the table). -/
def blitterAddresses : List Nat :=
  [0x040, 0x042, 0x044, 0x046, 0x048, 0x04A, 0x04C, 0x04E, 0x050, 0x052, 0x054, 0x056, 0x058,
   0x060, 0x062, 0x064, 0x066, 0x070, 0x072, 0x074]

end Sys2Proof.Machine
end

