-- ==== Sys2Proof/Certificates/Slice0/Obligations.lean ====
section
/-! DEFINITION. The statements about the Agnus block. Each docstring names the rule of spec/ it formalises; where a
clause rests on a choice of the model, it names the log entry. -/

open Sys2Proof Sys2Proof.Machine
open Host (Outcome)

/-! ## Encodings -/

/-- Every well-formed instruction is read back from its encoding (30_encoding.md sections 1 to 6). The place of the
operand bytes in a request is the model's choice (log 3). -/
def Obligations.DecodeReadsBackEveryEncoding : Prop :=
  ∀ i : Instr, i.wellFormed = true → decode (encode i) = .ok i

/-- R105: the Copper's decoding is total, bit 0 of the two words tells the three instructions apart, and of the 32
bits only IR1[15:9] of a MOVE and the deciding bits are not operands. -/
def Obligations.CopperDecodingIsTotal : Prop :=
  ∀ (b0 b1 b2 b3 : Byte) (rest : List Byte),
    (b1.getLsbD 0 = false →
      ∃ ra, decode { format := .copper, bytes := b0 :: b1 :: b2 :: b3 :: rest } = .ok (.move ra (wordOf b2 b3))
        ∧ ∀ k, k < 8 → ra.getLsbD k = (wordOf b0 b1).getLsbD (k + 1))
    ∧ (b1.getLsbD 0 = true → b3.getLsbD 0 = false →
      ∃ t, decode { format := .copper, bytes := b0 :: b1 :: b2 :: b3 :: rest } = .ok (.wait t)
        ∧ (encode (.wait t)).bytes = [b0, b1, b2, b3])
    ∧ (b1.getLsbD 0 = true → b3.getLsbD 0 = true →
      ∃ t, decode { format := .copper, bytes := b0 :: b1 :: b2 :: b3 :: rest } = .ok (.skip t)
        ∧ (encode (.skip t)).bytes = [b0, b1, b2, b3])

/-- Words whose codes, addresses, numbers and offsets are those of the tables of R102, R103, R104, R110, R118, R122 and
R123 decode to what they stand for. The operand bytes that follow them in a request (the data, the byte of the master,
the byte of the CIA) are the model's layout (DESIGN CHOICE, log 3). -/
def Obligations.SampleWordsDecode : Prop :=
  decode { format := .copper, bytes := [0x01, 0x80, 0x0F, 0x00] } = .ok (.move 0xC0 0x0F00)
    ∧ decode { format := .copper, bytes := [0x64, 0x33, 0xFF, 0xFE] }
        = .ok (.wait { vp := 100, hp := 25, bfd := true, ve := 0x7F, he := 0x7F })
    ∧ decode { format := .copper, bytes := [0x64, 0x01, 0xFF, 0x01] }
        = .ok (.skip { vp := 100, hp := 0, bfd := true, ve := 0x7F, he := 0 })
    ∧ decode { format := .regr, bytes := [0x00, 0x06] } = .ok .vhposr
    ∧ decode { format := .regw, bytes := [0x00, 0x96, 0x82, 0x80, 0x00] } = .ok (.dmacon .host 0x8280)
    ∧ decode { format := .ciar, bytes := [0x0D, 0x00] } = .ok (.icrR .a)
    ∧ decode { format := .ciaw, bytes := [0x0E, 0x01, 0x11] } = .ok (.craW .b 0x11)
    ∧ decode { format := .zorrow, bytes := [0x00, 0x48, 0x20] } = .ok (.autoconfBaseHi 0x20)
    ∧ decode { format := .host, bytes := [0x04] } = .ok .snapsize

/-! ## The step and the whole machine -/

/-- R340, R351: a step runs the one operation that is next and nothing else; the event list is emptied at its start.
What is no operation is refused (R124: codes 9 to 15; log 5: the rest), and with no operation pending nothing happens
(R342). That operations wait in `State.requests` is the model's choice (log 1). -/
def Obligations.StepRunsTheNextRequest : Prop :=
  ∀ s : State,
    (s.requests = [] → step s = .next s)
    ∧ ∀ e rest, s.requests = e :: rest →
        (∀ i, decode e = .ok i → i.byCopper = false →
          step s = exec i { s with requests := rest, events := [], result := .done })
        ∧ (∀ i, decode e = .ok i → i.byCopper = true → step s = .refused .copperOperationAtPort)
        ∧ (decode e = .error .truncated → step s = .refused (.malformedRequest .truncated))
        ∧ (decode e = .error .noSuchRow → step s = .refused (.malformedRequest .noSuchRow))
        ∧ (∀ (code : Byte) ops, e = { format := .host, bytes := code :: ops } → 9 ≤ code.toNat % 16 →
          step s = .refused .reservedHostOp)

/-- R23, R28, R37, R38, R41, R43, R44, R45, R48 and R142: every field stays in its range, the memories stay canonical and the
configuration valid, whatever operation runs. The canonical form is the model's (log 6), and so is the rejection of
snapshots of impossible states that the SNAPLOAD case rests on (log 12). -/
def Obligations.StepKeepsLegalStates : Prop :=
  ∀ s t : State, s.Inv → step s = .next t → t.Inv

/-- The state after reset is legal (R59, R142). -/
def Obligations.ResetStateIsLegal : Prop := State.reset.Inv

/-- R55, R352: no operation changes the configuration; a step takes one request off the list (log 1, log 2). -/
def Obligations.StepKeepsConfiguration : Prop :=
  ∀ s t : State, step s = .next t → t.cfg = s.cfg ∧ t.requests = s.requests.tail

/-- R59, R60: the values after both kinds of reset, and their difference. What RAM holds after a hard reset is
unspecified (R61), so nothing is stated of it. -/
def Obligations.ResetSetsEveryField : Prop :=
  ∀ (hard : Bool) (s : State),
    let timer : Timer := { count := 0, latch := 0, cr := 0, toggleOutput := false, pulseOutput := false }
    let port : Port := { port := 0, register := 0, direction := 0 }
    let cia : Cia := { portA := port, portB := port, timerA := timer, timerB := timer, sdr := 0, ssr := 0, icr := 0,
                       imr := 0, irq := false, tod := { value := 0, latch := 0, alarm := 0 }, todLatched := false,
                       todStopped := false }
    ∃ t, exec (.reset hard) s = .next t
    ∧ t.frame = { sequenceNumber := 0, isLongFrame := false, wasLongFramePrev := false }
    ∧ t.line = 0 ∧ t.cycle = 0
    ∧ t.agnus = { interlaceEnabled := false, hblank := false, hsync := false, frameStart := false, dmacon := 0,
                  busOwner := none, ciaPhase := 0 }
    ∧ t.cop = { programCounter := 0, list1Base := 0, list2Base := 0, activeListId := .one, cdang := false,
                active := false, waiting := false, ir1 := 0, lastInstructionWord := 0 }
    ∧ t.blt = { control0 := 0, control1 := 0, firstMask := 0, lastMask := 0, ptrA := 0, ptrB := 0, ptrC := 0, ptrD := 0,
                modA := 0, modB := 0, modC := 0, modD := 0, holdA := 0, holdB := 0, holdC := 0, holdD := 0,
                aOld := 0, bOld := 0, busyFlag := false, zeroFlag := false, firstWordFlag := false,
                lastWordFlag := false, fillCarry := false, width := 0, height := 0, xCounter := 0, yCounter := 0 }
    ∧ t.ciaA = cia ∧ t.ciaB = cia
    ∧ (hard = true → t.zorro = { fastRamConfigState := 0, fastRamBaseAddress := 0 })
    ∧ (hard = false → t.zorro = s.zorro
        ∧ (∀ a, chipByte t a = chipByte s a) ∧ ∀ a, fastByte t a = fastByte s a)
    ∧ t.cfg = s.cfg ∧ t.requests = s.requests ∧ t.events = s.events ∧ t.result = s.result

/-! ## ADVANCE: the raster, the grant, the clocks -/

/-- R131, R136, R137, R138: the position, the frame record and the line signals after a cycle. -/
def Obligations.AdvanceMovesTheRaster : Prop :=
  ∀ (i : CycleInputs) (s t : State), exec (.advance i) s = .next t →
    (s.cycle.toNat < 226 →
      t.cycle.toNat = s.cycle.toNat + 1 ∧ t.line = s.line ∧ t.frame = s.frame ∧ t.agnus.frameStart = false)
    ∧ (226 ≤ s.cycle.toNat → s.line.toNat + 1 < numLines s.frame →
      t.cycle = 0 ∧ t.line.toNat = s.line.toNat + 1 ∧ t.frame = s.frame ∧ t.agnus.frameStart = false)
    ∧ (226 ≤ s.cycle.toNat → numLines s.frame ≤ s.line.toNat + 1 →
      t.cycle = 0 ∧ t.line = 0 ∧ t.agnus.frameStart = true
        ∧ t.frame = { sequenceNumber := s.frame.sequenceNumber + 1
                      wasLongFramePrev := s.frame.isLongFrame
                      isLongFrame := s.frame.isLongFrame ^^ s.agnus.interlaceEnabled })
    ∧ t.agnus.hblank = decide (t.cycle = 0) ∧ t.agnus.hsync = decide (t.cycle = 0)

/-- R146, R173, R174, R175: what a cycle does for each owner it can grant: one Copper instruction, both of whose words
are fetched at the program counter; one Blitter word; nothing. -/
def Obligations.AdvanceRunsTheGrantedOwner : Prop :=
  ∀ (i : CycleInputs) (s : State),
    ((reached i s).agnus.busOwner = some .copper →
      exec (.advance i) s =
        andThen
          (exec (decodeCopper (chipRead16 s s.cop.programCounter) (chipRead16 s (s.cop.programCounter + 2)))
            { reached i s with
              cop := { s.cop with
                waiting := false
                ir1 := chipRead16 s s.cop.programCounter
                lastInstructionWord := chipRead16 s (s.cop.programCounter + 2)
                programCounter := s.cop.programCounter + 4 } })
          (fun u => .next (endCycle i u)))
    ∧ ((reached i s).agnus.busOwner = some .blitter →
      exec (.advance i) s = .next (endCycle i (stepOneWord (reached i s))))
    ∧ ((reached i s).agnus.busOwner ≠ some .copper → (reached i s).agnus.busOwner ≠ some .blitter →
      exec (.advance i) s = .next (endCycle i (reached i s)))

/-- R145: the owner is the first candidate that claims; no claim, no owner; nothing later in the cycle changes it. What
a claim is (R139, R140, R172, R210): an input for the CPU and every channel, which DMACON does not gate; for the two
coprocessors their DMA bit, the master bit and being in need of the slot. A Copper that holds a WAIT, whatever its two
words, needs the slot while the masked beam position has reached the masked target and the Blitter is not awaited (R184,
R185). -/
def Obligations.GrantGoesToTheFirstClaimant : Prop :=
  ∀ (i : CycleInputs) (s : State),
    let r := beginCycle i s
    let cand := candidates (r.agnus.dmacon.getLsbD 10) (slotTable r.cfg r.line.toNat r.cycle.toNat)
    let dma (k : Nat) : Bool := s.agnus.dmacon.getLsbD 9 && s.agnus.dmacon.getLsbD k
    let outer : List Owner := [.disk, .aud0, .aud1, .aud2, .aud3, .bpl1, .bpl2, .bpl3, .bpl4, .bpl5, .bpl6,
      .spr0, .spr1, .spr2, .spr3, .spr4, .spr5, .spr6, .spr7]
    claims i r .cpu = i.cpuClaim
    ∧ outer.map (claims i r) = i.disk :: ((List.range 4).map (fun k => i.aud.getLsbD k)
        ++ (List.range 6).map (fun k => i.bpl.getLsbD k) ++ (List.range 8).map (fun k => i.spr.getLsbD k))
    ∧ claims i r .blitter = (dma 6 && s.blt.busyFlag)
    ∧ claims i r .copper = copperClaims r
    ∧ (let w1 := s.cop.ir1.toNat
      let w2 := s.cop.lastInstructionWord.toNat
      let vM := 128 + w2 / 256 % 128
      let hM := 2 * (w2 / 2 % 128)
      let line := (r.line.toNat % 256) &&& vM
      let target := (w1 / 256) &&& vM
      let beam := decide (target < line
        ∨ (line = target ∧ (2 * (w1 / 2 % 128)) &&& hM ≤ (2 * (r.cycle.toNat / 2)) &&& hM))
      copperClaims r = (dma 7 && s.cop.active
        && (!s.cop.waiting || (beam && (decide (32768 ≤ w2) || !s.blt.busyFlag)))))
    ∧ ((reached i s).agnus.busOwner = none ↔ ∀ o ∈ cand, claims i r o = false)
    ∧ (∀ o, (reached i s).agnus.busOwner = some o ↔
        ∃ before after, cand = before ++ o :: after ∧ claims i r o = true ∧ ∀ x ∈ before, claims i r x = false)
    ∧ ∀ t, exec (.advance i) s = .next t → t.agnus.busOwner = (reached i s).agnus.busOwner

/-- R143: in nasty mode the CPU is moved to the place right after the Blitter, and nothing else of the list changes. -/
def Obligations.NastyMovesOnlyTheCpu : Prop :=
  ∀ row : List Owner, row.Nodup →
    candidates false row = row
    ∧ (∀ n, .cpu ∉ row ∨ .blitter ∉ row → candidates n row = row)
    ∧ (.cpu ∈ row → .blitter ∈ row →
        ∃ before after, candidates true row = before ++ .blitter :: .cpu :: after
          ∧ before ++ .blitter :: after = row.filter (fun o => o != .cpu))

/-- R141 to R145, the document's "Blitter yields to CPU/Copper when they need the slot, 'blitter-nasty' mode excepted". -/
def Obligations.BlitterYieldsToCopperAndCpu : Prop :=
  ∀ (i : CycleInputs) (s : State), s.cfg.valid = true → grantedOwner i s = some .blitter →
    blitterClaims s = true
    ∧ (.copper ∈ slotTable s.cfg s.line.toNat s.cycle.toNat → copperClaims s = false)
    ∧ (s.agnus.dmacon.getLsbD 10 = false → .cpu ∈ slotTable s.cfg s.line.toNat s.cycle.toNat → i.cpuClaim = false)

/-- R149, R150, R151: the pins are sampled, both CIAs tick when the divider expires, then the TOD pulses arrive; the
granted owner's work in between touches neither CIA. -/
def Obligations.AdvanceClocksTheCias : Prop :=
  ∀ (i : CycleInputs) (s t : State), exec (.advance i) s = .next t →
    let sampled (x : Cia) (p : CiaPins) : Cia :=
      { x with portA := { x.portA with port := p.portA }, portB := { x.portB with port := p.portB } }
    let ticked (x : Cia) : Cia := if s.agnus.ciaPhase + 1 = s.cfg.ciaDivider then tickCia x else x
    let pulsed (p : Bool) (x : Cia) : Cia := if p then pulseTod s.cfg.todBits x else x
    t.agnus.ciaPhase = (if s.agnus.ciaPhase + 1 = s.cfg.ciaDivider then 0 else s.agnus.ciaPhase + 1)
    ∧ t.ciaA = pulsed i.todPulseA (ticked (sampled s.ciaA i.pinsA))
    ∧ t.ciaB = pulsed i.todPulseB (ticked (sampled s.ciaB i.pinsB))

/-- R321, R371, R147, R49: a cycle never touches the Zorro mapper or Fast RAM, never raises an unmapped access, and emits
at most one event, which the Copper drives. -/
def Obligations.AdvanceStaysInsideTheChipset : Prop :=
  ∀ (i : CycleInputs) (s t : State), exec (.advance i) s = .next t →
    t.zorro = s.zorro ∧ t.fastRam = s.fastRam ∧ t.result = s.result ∧ t.epoch = s.epoch
    ∧ (∀ c, (getCia t c).portA.register = (getCia s c).portA.register
        ∧ (getCia t c).portA.direction = (getCia s c).portA.direction
        ∧ (getCia t c).portB.register = (getCia s c).portB.register
        ∧ (getCia t c).portB.direction = (getCia s c).portB.direction
        ∧ (getCia t c).timerA.latch = (getCia s c).timerA.latch
        ∧ (getCia t c).timerB.latch = (getCia s c).timerB.latch
        ∧ (getCia t c).sdr = (getCia s c).sdr ∧ (getCia t c).ssr = (getCia s c).ssr
        ∧ (getCia t c).imr = (getCia s c).imr ∧ (getCia t c).tod.latch = (getCia s c).tod.latch
        ∧ (getCia t c).tod.alarm = (getCia s c).tod.alarm ∧ (getCia t c).todLatched = (getCia s c).todLatched
        ∧ (getCia t c).todStopped = (getCia s c).todStopped)
    ∧ (t.events = s.events
        ∨ (∃ a v, t.events = s.events ++ [.regWriteOut .copper a v])
        ∨ ∃ a v, t.events = s.events ++ [.copperDiscard a v])

/-- R172, R178: a cycle in which the Copper does not claim completes, leaves the Copper, the DMA control and the interlace
bit as they were and emits nothing. -/
def Obligations.UnclaimedCycleLeavesTheCopper : Prop :=
  ∀ (i : CycleInputs) (s : State), copperClaims (beginCycle i s) = false →
    ∃ t, exec (.advance i) s = .next t ∧ t.cop = s.cop ∧ t.events = s.events
      ∧ t.agnus.busOwner ≠ some .copper ∧ t.agnus.dmacon = s.agnus.dmacon
      ∧ t.agnus.interlaceEnabled = s.agnus.interlaceEnabled

/-- R199: the held WAIT for line 100, cycle 50 with full masks claims from that position on and not before; while it
does not, the Copper sleeps unchanged; when it is granted, the instruction after the WAIT runs in that cycle. -/
def Obligations.WaitForLine100Cycle50 : Prop :=
  ∀ (i : CycleInputs) (s : State),
    s.cop.active = true → s.cop.waiting = true → s.cop.ir1 = 0x6433 → s.cop.lastInstructionWord = 0xFFFE →
    s.agnus.dmacon.getLsbD 9 = true → s.agnus.dmacon.getLsbD 7 = true →
    let r := beginCycle i s
    r.line.toNat ≤ 255 →
    (copperClaims r = true ↔ 100 < r.line.toNat ∨ (r.line.toNat = 100 ∧ 50 ≤ r.cycle.toNat))
    ∧ (r.line.toNat < 100 ∨ (r.line.toNat = 100 ∧ r.cycle.toNat < 50) →
        ∃ t, exec (.advance i) s = .next t ∧ t.cop = s.cop ∧ t.events = s.events)
    ∧ ((reached i s).agnus.busOwner = some .copper → ∀ t, exec (.advance i) s = .next t →
        t.cop.ir1 = chipRead16 s s.cop.programCounter
          ∧ t.cop.lastInstructionWord = chipRead16 s (s.cop.programCounter + 2))

/-- R187: a Copper that holds END (0xFFFF, 0xFFFE) is parked: no number of cycles with any inputs moves it. -/
def Obligations.EndParksTheCopper : Prop :=
  ∀ (is : List CycleInputs) (s : State),
    s.cop.waiting = true → s.cop.ir1 = 0xFFFF → s.cop.lastInstructionWord = 0xFFFE →
    ∃ t, advances is s = .next t ∧ t.cop = s.cop ∧ t.events = s.events

/-- R133: from position (0, 0) a frame takes exactly 227 cycles for each of its lines, and `Frame.next` runs exactly
once, in the last of them. -/
def Obligations.FrameTakes227CyclesPerLine : Prop :=
  ∀ (is : List CycleInputs) (s t : State), s.line = 0 → s.cycle = 0 → advances is s = .next t →
    (is.length < 227 * numLines s.frame →
      t.line.toNat = is.length / 227 ∧ t.cycle.toNat = is.length % 227 ∧ t.frame = s.frame)
    ∧ (is.length = 227 * numLines s.frame →
      t.line = 0 ∧ t.cycle = 0 ∧ t.agnus.frameStart = true
        ∧ t.frame.sequenceNumber = s.frame.sequenceNumber + 1 ∧ t.frame.wasLongFramePrev = s.frame.isLongFrame)

/-- R132, R22: with interlace on throughout (here: set, and the Copper idle, so that no cycle can write it), frames
alternate between 312 and 313 lines. -/
def Obligations.InterlaceAlternatesFrameLengths : Prop :=
  ∀ (is : List CycleInputs) (s : State), s.agnus.interlaceEnabled = true → s.cop.active = false →
    ∃ t, advances is s = .next t ∧ s.frame.sequenceNumber ≤ t.frame.sequenceNumber
      ∧ numLines t.frame
          = 312 + ((if s.frame.isLongFrame then 1 else 0) + (t.frame.sequenceNumber - s.frame.sequenceNumber)) % 2
      ∧ (numLines t.frame = 312 ↔ t.frame.isLongFrame = false)

/-! ## The Copper -/

/-- R180, R182: an allowed MOVE writes the register it names, or is forwarded where the block implements none; any
other is dropped, and only the debug event tells. That the addresses between the Blitter's registers that have no
register (0x05A, 0x05C, 0x05E, 0x068 to 0x06E) are forwarded during a blit too, as R108 and R111 say, although they lie
in the range that R412 writes, is the model's reading (DEDUCED, log 10). -/
def Obligations.MoveWritesForwardsOrDrops : Prop :=
  ∀ (ra : BitVec 8) (dw : Word) (s : State),
    let threshold := (if s.cop.cdang then s.cfg.copperMinRegDanger else s.cfg.copperMinRegSafe).toNat
    (2 * ra.toNat < threshold →
      exec (.move ra dw) s = .next { s with events := s.events ++ [.copperDiscard (BitVec.ofNat 9 (2 * ra.toNat)) dw] })
    ∧ (threshold ≤ 2 * ra.toNat →
      (∀ j, regwRow (2 * ra.toNat) .copper dw = some j → exec (.move ra dw) s = exec j s)
      ∧ (regwRow (2 * ra.toNat) .copper dw = none →
        exec (.move ra dw) s
          = .next { s with events := s.events ++ [.regWriteOut .copper (BitVec.ofNat 9 (2 * ra.toNat)) dw] }))

/-- R183, R185, R186: WAIT and SKIP compare the masked beam position with their target, line before cycle, line bit 8
not seen, line bit 7 always compared, cycle bit 0 never, and look at the Blitter unless told not to. -/
def Obligations.WaitAndSkipFollowTheBeam : Prop :=
  ∀ (t : BeamTarget) (s : State),
    let vM := 128 + t.ve.toNat
    let hM := 2 * t.he.toNat
    let beam := decide (256 * (t.vp.toNat &&& vM) + ((2 * t.hp.toNat) &&& hM)
      ≤ 256 * ((s.line.toNat % 256) &&& vM) + (s.cycle.toNat &&& hM))
    let satisfied := beam && (t.bfd || !s.blt.busyFlag)
    exec (.wait t) s = .next (if satisfied then s else { s with cop := { s.cop with waiting := true } })
    ∧ exec (.skip t) s
        = .next (if satisfied then { s with cop := { s.cop with programCounter := s.cop.programCounter + 4 } } else s)

/-- R171, R189, R190, R196: a strobe restarts the Copper from its list; only the Copper's own jump to a zero base retires
it. -/
def Obligations.StrobesRestartTheCopper : Prop :=
  ∀ (src : Master) (v : Word) (s : State),
    exec (.copjmp1 src v) s = .next { s with cop := { s.cop with
      activeListId := .one, programCounter := s.cop.list1Base, waiting := false
      active := decide (¬(src = .copper ∧ s.cop.list1Base = 0)) } }
    ∧ exec (.copjmp2 src v) s = .next { s with cop := { s.cop with
      activeListId := .two, programCounter := s.cop.list2Base, waiting := false
      active := decide (¬(src = .copper ∧ s.cop.list2Base = 0)) } }

/-- R191 to R195: the halves of the list bases and the danger bit; nothing else changes. -/
def Obligations.CopperRegisterWrites : Prop :=
  ∀ (src : Master) (v : Word) (s : State),
    (∃ b : Long, b.toNat = 65536 * v.toNat + s.cop.list1Base.toNat % 65536
      ∧ exec (.cop1lch src v) s = .next { s with cop := { s.cop with list1Base := b } })
    ∧ (∃ b : Long, b.toNat = 65536 * (s.cop.list1Base.toNat / 65536) + v.toNat
      ∧ exec (.cop1lcl src v) s = .next { s with cop := { s.cop with list1Base := b } })
    ∧ (∃ b : Long, b.toNat = 65536 * v.toNat + s.cop.list2Base.toNat % 65536
      ∧ exec (.cop2lch src v) s = .next { s with cop := { s.cop with list2Base := b } })
    ∧ (∃ b : Long, b.toNat = 65536 * (s.cop.list2Base.toNat / 65536) + v.toNat
      ∧ exec (.cop2lcl src v) s = .next { s with cop := { s.cop with list2Base := b } })
    ∧ exec (.copcon src v) s = .next { s with cop := { s.cop with cdang := decide (v.toNat / 2 % 2 = 1) } }

/-- R177, R196: an idle Copper is armed again only by a host write of a strobe (or by loading a snapshot, R404). -/
def Obligations.IdleCopperIsArmedOnlyByAStrobe : Prop :=
  ∀ s t : State, step s = .next t → s.cop.active = false → t.cop.active = true →
    ∃ e rest i, s.requests = e :: rest ∧ decode e = .ok i
      ∧ ((∃ v, i = .copjmp1 .host v) ∨ (∃ v, i = .copjmp2 .host v)
        ∨ (∃ a v, i = .regwrite a v ∧ (regIndex a = 0x088 ∨ regIndex a = 0x08A)) ∨ ∃ b, i = .snapload b)

/-- R181, R383: "The Copper cannot change `cdang`": with both thresholds above 0x02E, as the defaults are, no cycle
changes the danger bit. -/
def Obligations.CopperCannotLiftItsRestriction : Prop :=
  ∀ (i : CycleInputs) (s t : State),
    0x030 ≤ s.cfg.copperMinRegSafe.toNat → 0x030 ≤ s.cfg.copperMinRegDanger.toNat →
    exec (.advance i) s = .next t → t.cop.cdang = s.cop.cdang

/-! ## The chipset registers of Agnus -/

/-- R156, R157: DMACON's set/clear protocol bit by bit; BPLCON0's interlace bit and its forwarding. -/
def Obligations.DmaconAndBplcon0Writes : Prop :=
  ∀ (src : Master) (v : Word) (s : State),
    (∃ d : BitVec 11, (∀ k, k < 11 → d.getLsbD k = if v.getLsbD k then v.getLsbD 15 else s.agnus.dmacon.getLsbD k)
      ∧ exec (.dmacon src v) s = .next { s with agnus := { s.agnus with dmacon := d } })
    ∧ exec (.bplcon0 src v) s = .next { s with
        agnus := { s.agnus with interlaceEnabled := decide (v.toNat / 4 % 2 = 1) }
        events := s.events ++ [.regWriteOut src 0x100 v] }

/-- R153, R154, R155: the three readable registers as numbers; the reads change nothing but the result. -/
def Obligations.StatusAndPositionReads : Prop :=
  ∀ s : State,
    (∃ w : Word, w.toNat = s.agnus.dmacon.toNat + 16384 * s.blt.busyFlag.toNat + 8192 * s.blt.zeroFlag.toNat
      ∧ exec .dmaconr s = .next { s with result := .word w })
    ∧ (∃ w : Word, w.toNat = 32768 * s.frame.isLongFrame.toNat + s.line.toNat / 256
      ∧ exec .vposr s = .next { s with result := .word w })
    ∧ (∃ w : Word, w.toNat = 256 * (s.line.toNat % 256) + s.cycle.toNat
      ∧ exec .vhposr s = .next { s with result := .word w })

/-- R158: a write of the raster position is refused, from either master and through REGWRITE. -/
def Obligations.RasterPositionWritesAreRefused : Prop :=
  ∀ (src : Master) (v : Word) (s : State),
    exec (.vposw src v) s = .refused .rasterPositionWrite
    ∧ exec (.vhposw src v) s = .refused .rasterPositionWrite
    ∧ exec (.regwrite 0x02A v) s = .refused .rasterPositionWrite
    ∧ exec (.regwrite 0x02C v) s = .refused .rasterPositionWrite

/-! ## The Blitter -/

/-- R211 to R214, R223 to R229: the Blitter registers that store a word, with no blit in flight. -/
def Obligations.BlitterWordRegisterWrites : Prop :=
  ∀ (src : Master) (v : Word) (s : State), s.blt.busyFlag = false →
    exec (.bltcon0 src v) s = .next { s with blt := { s.blt with control0 := v } }
    ∧ exec (.bltcon1 src v) s = .next { s with blt := { s.blt with control1 := v } }
    ∧ exec (.bltafwm src v) s = .next { s with blt := { s.blt with firstMask := v } }
    ∧ exec (.bltalwm src v) s = .next { s with blt := { s.blt with lastMask := v } }
    ∧ exec (.bltcmod src v) s = .next { s with blt := { s.blt with modC := v } }
    ∧ exec (.bltbmod src v) s = .next { s with blt := { s.blt with modB := v } }
    ∧ exec (.bltamod src v) s = .next { s with blt := { s.blt with modA := v } }
    ∧ exec (.bltdmod src v) s = .next { s with blt := { s.blt with modD := v } }
    ∧ exec (.bltcdat src v) s = .next { s with blt := { s.blt with holdC := v } }
    ∧ exec (.bltbdat src v) s = .next { s with blt := { s.blt with holdB := v } }
    ∧ exec (.bltadat src v) s = .next { s with blt := { s.blt with holdA := v } }

/-- R115, R215 to R222: the halves of the four pointers, with no blit in flight. -/
def Obligations.BlitterPointerHalfWrites : Prop :=
  ∀ (src : Master) (v : Word) (s : State), s.blt.busyFlag = false →
    let high (p q : Long) : Prop := q.toNat = 65536 * v.toNat + p.toNat % 65536
    let low (p q : Long) : Prop := q.toNat = 65536 * (p.toNat / 65536) + v.toNat
    (∃ q, high s.blt.ptrA q ∧ exec (.bltapth src v) s = .next { s with blt := { s.blt with ptrA := q } })
    ∧ (∃ q, low s.blt.ptrA q ∧ exec (.bltaptl src v) s = .next { s with blt := { s.blt with ptrA := q } })
    ∧ (∃ q, high s.blt.ptrB q ∧ exec (.bltbpth src v) s = .next { s with blt := { s.blt with ptrB := q } })
    ∧ (∃ q, low s.blt.ptrB q ∧ exec (.bltbptl src v) s = .next { s with blt := { s.blt with ptrB := q } })
    ∧ (∃ q, high s.blt.ptrC q ∧ exec (.bltcpth src v) s = .next { s with blt := { s.blt with ptrC := q } })
    ∧ (∃ q, low s.blt.ptrC q ∧ exec (.bltcptl src v) s = .next { s with blt := { s.blt with ptrC := q } })
    ∧ (∃ q, high s.blt.ptrD q ∧ exec (.bltdpth src v) s = .next { s with blt := { s.blt with ptrD := q } })
    ∧ (∃ q, low s.blt.ptrD q ∧ exec (.bltdptl src v) s = .next { s with blt := { s.blt with ptrD := q } })

/-- R112: while a blit is in flight every write of a Blitter register is refused, from either master; bit 0 of the
address does not matter (R107). -/
def Obligations.BlitterWritesAreRefusedWhileBusy : Prop :=
  ∀ (src : Master) (a : RegAddr) (v : Word) (s : State), s.blt.busyFlag = true → regIndex a ∈ blitterAddresses →
    (∃ i, regwRow (regIndex a) src v = some i ∧ exec i s = .refused .blitterRegisterWriteWhileBusy)
    ∧ exec (.regwrite a v) s = .refused .blitterRegisterWriteWhileBusy

/-- R116, R230, R231: BLTSIZE starts the blit with the registers as they stand, or is refused in line and descending
mode. -/
def Obligations.BltsizeStartsABlit : Prop :=
  ∀ (src : Master) (v : Word) (s : State), s.blt.busyFlag = false →
    let h := if v.toNat / 64 = 0 then 1024 else v.toNat / 64
    let w := if v.toNat % 64 = 0 then 64 else v.toNat % 64
    (s.blt.control1.getLsbD 0 = false ∧ s.blt.control1.getLsbD 1 = false →
      exec (.bltsize src v) s = .next { s with blt := { s.blt with
        height := h, width := w, xCounter := w, yCounter := h, busyFlag := true, zeroFlag := true
        firstWordFlag := true, lastWordFlag := decide (w = 1), fillCarry := s.blt.control1.getLsbD 2
        aOld := 0, bOld := 0 } })
    ∧ (s.blt.control1.getLsbD 0 = true ∨ s.blt.control1.getLsbD 1 = true →
      exec (.bltsize src v) s = .refused .blitterModeNotSpecified)

/-- R234 to R238: without fill, every bit of the word of a step is the bit of the minterm byte that the shifted A, the
shifted B and C select, for every minterm byte and every enable, and an enabled D then reads back that word. The minterm
identities; and the document's property of one step: with minterm 0xCA, channel C disabled and its holding register 0,
the word is `shift(A) AND shift(B)`; with minterm 0xFF it is all ones. -/
def Obligations.MintermIdentities : Prop :=
  (∀ a b c : Word,
    mintermWord 0xCA a b c = (a &&& b) ||| (~~~a &&& c) ∧ mintermWord 0xFF a b c = 0xFFFF
    ∧ mintermWord 0x00 a b c = 0 ∧ mintermWord 0xF0 a b c = a ∧ mintermWord 0xCC a b c = b
    ∧ mintermWord 0xAA a b c = c ∧ mintermWord 0x0F a b c = ~~~a ∧ mintermWord 0xC0 a b c = a &&& b
    ∧ mintermWord 0xFC a b c = a ||| b ∧ mintermWord 0x3C a b c = a ^^^ b)
  ∧ ∀ s : State, s.blt.control1.getLsbD 3 = false → s.blt.control1.getLsbD 4 = false →
    let shifted (old cur : Word) (n : Nat) : Word := BitVec.ofNat 16 ((65536 * old.toNat + cur.toNat) / 2 ^ n)
    let aWord := if s.blt.control0.getLsbD 11 then chipRead16 s s.blt.ptrA else s.blt.holdA
    let bWord := if s.blt.control0.getLsbD 10 then chipRead16 s s.blt.ptrB else s.blt.holdB
    let aMasked := aWord &&& (if s.blt.firstWordFlag then s.blt.firstMask else 0xFFFF)
      &&& (if s.blt.lastWordFlag then s.blt.lastMask else 0xFFFF)
    let aS := shifted s.blt.aOld aMasked (s.blt.control0.toNat / 4096)
    let bS := shifted s.blt.bOld bWord (s.blt.control1.toNat / 4096)
    let c := if s.blt.control0.getLsbD 9 then chipRead16 s s.blt.ptrC else s.blt.holdC
    let t := stepOneWord s
    (∀ k, k < 16 → t.blt.holdD.getLsbD k
      = s.blt.control0.getLsbD (4 * (aS.getLsbD k).toNat + 2 * (bS.getLsbD k).toNat + (c.getLsbD k).toNat))
    ∧ (s.blt.control0.getLsbD 8 = true → chipRead16 t s.blt.ptrD = t.blt.holdD)
    ∧ (s.blt.control0.toNat % 256 = 0xCA → s.blt.control0.getLsbD 9 = false → s.blt.holdC = 0 →
      t.blt.holdD = aS &&& bS ∧ (s.blt.control0.getLsbD 8 = true → chipRead16 t s.blt.ptrD = aS &&& bS))
    ∧ (s.blt.control0.toNat % 256 = 0xFF →
      t.blt.holdD = 0xFFFF ∧ (s.blt.control0.getLsbD 8 = true → chipRead16 t s.blt.ptrD = 0xFFFF))

/-- R239: the carry that enters a bit is the carry into the word, toggled by every 1 below; exclusive and inclusive fill
of each bit; the carry out counts all sixteen. A step with fill enabled leaves in `holdD`, and stores, the filled word of
the one that the same step leaves without fill (which `MintermIdentities` gives); its zero flag looks at the filled word
(R240), and its carry is the carry out, or the reloaded FCI after the last word of a line (R243). -/
def Obligations.FillCountsTheBitsBelow : Prop :=
  (∀ (d : Word) (carry : Bool) (k : Nat), k ≤ 16 →
    let odd := decide (((List.range k).countP (fun j => d.getLsbD j)) % 2 = 1)
    fillCarryAt d carry k = (carry ^^ odd)
    ∧ (k < 16 → (fillWord true d carry).getLsbD k = ((carry ^^ odd) ^^ d.getLsbD k))
    ∧ (k < 16 → (fillWord false d carry).getLsbD k = ((carry ^^ odd) || d.getLsbD k)))
  ∧ (∀ b : Blitter, b.control1.getLsbD 3 = true ∨ b.control1.getLsbD 4 = true →
    ∃ d : Word, (combineWord b).holdD = fillWord (b.control1.getLsbD 4) d b.fillCarry
      ∧ (combineWord b).fillCarry = fillCarryAt d b.fillCarry 16
      ∧ (combineWord { b with control1 := b.control1 &&& 0xFFE7 }).holdD = d)
  ∧ ∀ s : State, s.blt.control1.getLsbD 3 = true ∨ s.blt.control1.getLsbD 4 = true →
    let d := (stepOneWord { s with blt := { s.blt with control1 := s.blt.control1 &&& 0xFFE7 } }).blt.holdD
    let carry (k : Nat) : Bool :=
      s.blt.fillCarry ^^ decide (((List.range k).countP (fun j => d.getLsbD j)) % 2 = 1)
    let t := stepOneWord s
    (∀ k, k < 16 → t.blt.holdD.getLsbD k
      = if s.blt.control1.getLsbD 4 then carry k ^^ d.getLsbD k else carry k || d.getLsbD k)
    ∧ (s.blt.control0.getLsbD 8 = true → chipRead16 t s.blt.ptrD = t.blt.holdD)
    ∧ t.blt.zeroFlag = (s.blt.zeroFlag && decide (t.blt.holdD = 0))
    ∧ t.blt.fillCarry = (if s.blt.xCounter ≤ 1 then s.blt.control1.getLsbD 2 else carry 16)

/-- R230, R243: after BLTSIZE the blit takes exactly width times height words: the counters and word flags after every
number of them, the busy flag, which falls with the last, and the fill carry, reloaded at every line. -/
def Obligations.BlitTakesWidthTimesHeightWords : Prop :=
  ∀ (src : Master) (v : Word) (s t : State), exec (.bltsize src v) s = .next t →
    let h := if v.toNat / 64 = 0 then 1024 else v.toNat / 64
    let w := if v.toNat % 64 = 0 then 64 else v.toNat % 64
    ∀ n, n ≤ w * h →
      let b := (stepOneWord^[n] t).blt
      b.busyFlag = decide (n < w * h) ∧ b.width = w ∧ b.height = h
      ∧ b.yCounter = h - n / w ∧ b.xCounter = w - n % w
      ∧ b.firstWordFlag = decide (n % w = 0) ∧ b.lastWordFlag = decide (n % w = w - 1)
      ∧ (n % w = 0 → b.fillCarry = s.blt.control1.getLsbD 2)

/-- R242: where the four pointers stand after every number `n` of words of a blit: an enabled one has moved by
`2*(width - 1) + mod` for every finished line and by 2 for every word of the line it is in, modulo 2^32; a disabled one
not at all. For the whole blit that is `height * (2*(width - 1) + mod)`. -/
def Obligations.PointersAfterABlit : Prop :=
  ∀ (src : Master) (v : Word) (s t : State), exec (.bltsize src v) s = .next t →
    let h := if v.toNat / 64 = 0 then 1024 else v.toNat / 64
    let w := if v.toNat % 64 = 0 then 64 else v.toNat % 64
    ∀ n : Nat, n ≤ w * h →
      let lines : Int := ((n / w : Nat) : Int)
      let words : Int := ((n % w : Nat) : Int)
      let moved (enabled : Bool) (p : Long) (m : Word) : Long :=
        if enabled then p + BitVec.ofInt 32 (lines * (2 * ((w : Int) - 1) + m.toInt) + 2 * words) else p
      let b := (stepOneWord^[n] t).blt
      b.ptrA = moved (s.blt.control0.getLsbD 11) s.blt.ptrA s.blt.modA
      ∧ b.ptrB = moved (s.blt.control0.getLsbD 10) s.blt.ptrB s.blt.modB
      ∧ b.ptrC = moved (s.blt.control0.getLsbD 9) s.blt.ptrC s.blt.modC
      ∧ b.ptrD = moved (s.blt.control0.getLsbD 8) s.blt.ptrD s.blt.modD

/-- R230, R240: after any number of words of a blit the zero flag says whether every output word so far was zero,
stored or not. -/
def Obligations.ZeroFlagTellsAllWordsWereZero : Prop :=
  ∀ (src : Master) (v : Word) (s t : State), exec (.bltsize src v) s = .next t → ∀ n,
    ((stepOneWord^[n] t).blt.zeroFlag = true ↔ ∀ k, k < n → (stepOneWord^[k + 1] t).blt.holdD = 0)

/-- R210, R233, R241: a Blitter word changes the Blitter's working registers and the two bytes at its destination,
high byte first, and only those; with channel D disabled it changes no memory. -/
def Obligations.BlitterWordTouchesOnlyItsDestination : Prop :=
  ∀ s : State,
    let t := stepOneWord s
    let a := chipAddr s.cfg s.blt.ptrD
    t = { s with blt := t.blt, chipRam := t.chipRam }
    ∧ t.blt.control0 = s.blt.control0 ∧ t.blt.control1 = s.blt.control1
    ∧ t.blt.firstMask = s.blt.firstMask ∧ t.blt.lastMask = s.blt.lastMask
    ∧ t.blt.modA = s.blt.modA ∧ t.blt.modB = s.blt.modB ∧ t.blt.modC = s.blt.modC ∧ t.blt.modD = s.blt.modD
    ∧ t.blt.width = s.blt.width ∧ t.blt.height = s.blt.height
    ∧ (s.blt.control0.getLsbD 8 = false → ∀ x, chipByte t x = chipByte s x)
    ∧ (s.blt.control0.getLsbD 8 = true →
        chipByte t a = wordHi t.blt.holdD ∧ chipByte t (a + 1) = wordLo t.blt.holdD
        ∧ ∀ x, x ≠ a → x ≠ a + 1 → chipByte t x = chipByte s x)

/-! ## The CIAs -/

/-- R261, R262, R264, R279: a running, continuous timer that holds its latch `L` counts down and underflows on tick
`L + 1`, `2 (L + 1)`, and so on; each underflow sets its pending bit, and the line if the mask lets it. The other
timer is stopped, so that its underflows do not show. -/
def Obligations.ContinuousTimerPeriod : Prop :=
  ∀ (x : Cia) (k n : Nat),
    (x.timerA.running = true → x.timerA.oneShotMode = false → x.timerA.count = x.timerA.latch →
      x.timerB.running = false → n ≤ x.timerA.latch.toNat →
      let y := tickCia^[k * (x.timerA.latch.toNat + 1) + n] x
      y.timerA.count.toNat = x.timerA.latch.toNat - n
      ∧ y.icr = (if k = 0 then x.icr else x.icr ||| 0x01)
      ∧ y.irq = (x.irq || (decide (k ≠ 0) && x.imr.getLsbD 0))
      ∧ y.timerA.toggleOutput = (x.timerA.toggleOutput ^^ decide (k % 2 = 1))
      ∧ (k + n ≠ 0 → y.timerA.pulseOutput = decide (n = 0)))
    ∧ (x.timerB.running = true → x.timerB.oneShotMode = false → x.timerB.count = x.timerB.latch →
      x.timerA.running = false → n ≤ x.timerB.latch.toNat →
      let y := tickCia^[k * (x.timerB.latch.toNat + 1) + n] x
      y.timerB.count.toNat = x.timerB.latch.toNat - n
      ∧ y.icr = (if k = 0 then x.icr else x.icr ||| 0x02)
      ∧ y.irq = (x.irq || (decide (k ≠ 0) && x.imr.getLsbD 1))
      ∧ y.timerB.toggleOutput = (x.timerB.toggleOutput ^^ decide (k % 2 = 1))
      ∧ (k + n ≠ 0 → y.timerB.pulseOutput = decide (n = 0)))

/-- R261 to R265, R278: a one-shot timer counts to 0, underflows once, and then stands stopped at 0; a continuous timer
reloads its latch at the underflow and runs on; a stopped one only drops its pulse. In a tick of a CIA each timer takes
its own step, whatever the other does, and each underflow, in either mode, sets its ICR bit, and the line if the mask
lets it; both in one tick set both bits; nothing else of the CIA changes. -/
def Obligations.UnderflowStopsOrReloadsTheTimer : Prop :=
  (∀ t : Timer, t.running = false → tickTimer t = { t with pulseOutput := false })
  ∧ (∀ x : Cia,
    let underflowA := x.timerA.running && decide (x.timerA.count = 0)
    let underflowB := x.timerB.running && decide (x.timerB.count = 0)
    tickCia x = { x with
      timerA := tickTimer x.timerA
      timerB := tickTimer x.timerB
      icr := x.icr ||| (if underflowA then 0x01 else 0) ||| (if underflowB then 0x02 else 0)
      irq := x.irq || (underflowA && x.imr.getLsbD 0) || (underflowB && x.imr.getLsbD 1) })
  ∧ (∀ (x : Cia) (n : Nat),
    (tickCia^[n] x).timerA = tickTimer^[n] x.timerA ∧ (tickCia^[n] x).timerB = tickTimer^[n] x.timerB
    ∧ (x.timerA.running = true → x.timerA.oneShotMode = true →
      (tickCia^[n] x).icr.getLsbD 0 = (x.icr.getLsbD 0 || decide (x.timerA.count.toNat < n)))
    ∧ (x.timerB.running = true → x.timerB.oneShotMode = true →
      (tickCia^[n] x).icr.getLsbD 1 = (x.icr.getLsbD 1 || decide (x.timerB.count.toNat < n))))
  ∧ ∀ t : Timer, t.running = true →
    (∀ n, n ≤ t.count.toNat →
      (tickTimer^[n] t).count.toNat = t.count.toNat - n ∧ (tickTimer^[n] t).running = true)
    ∧ (t.oneShotMode = true → ∀ m, tickTimer^[t.count.toNat + 1 + m] t
        = { t with count := 0, cr := t.cr &&& 0xFE, toggleOutput := !t.toggleOutput, pulseOutput := decide (m = 0) })
    ∧ (t.oneShotMode = false → tickTimer^[t.count.toNat + 1] t
        = { t with count := t.latch, toggleOutput := !t.toggleOutput, pulseOutput := true })

/-- R268, R269: pulses count the TOD up modulo `2 ^ TOD_BITS` (24 by default) unless it is stopped; reaching the alarm at
a pulse sets the alarm's pending bit, and the line if the mask lets it; nothing else changes. -/
def Obligations.TodCountsAndRaisesItsAlarm : Prop :=
  ∀ (bits : Nat) (x : Cia) (n : Nat), x.tod.value < 2 ^ bits →
    (x.todStopped = true → (pulseTod bits)^[n] x = x)
    ∧ (x.todStopped = false →
      let hit := ∃ k, k < n ∧ (x.tod.value + (k + 1)) % 2 ^ bits = x.tod.alarm
      (¬hit → (pulseTod bits)^[n] x = { x with tod := { x.tod with value := (x.tod.value + n) % 2 ^ bits } })
      ∧ (hit → (pulseTod bits)^[n] x = { x with
          tod := { x.tod with value := (x.tod.value + n) % 2 ^ bits }
          icr := x.icr ||| 0x04
          irq := x.irq || x.imr.getLsbD 2 }))

/-- R280 to R287, R289, R292, R294, R295: the CIA reads without side effects, each for either CIA. That TODMID reads 0 for
the bits that a TOD narrower than 16 bits does not have is the model's (DESIGN CHOICE, log 14). -/
def Obligations.CiaReadsWithoutSideEffects : Prop :=
  ∀ (c : CiaId) (s : State),
    let x := getCia s c
    let pin (p : Port) (k : Nat) : Bool := if p.direction.getLsbD k then p.register.getLsbD k else p.port.getLsbD k
    let gives (i : Instr) (b : Byte) : Prop := exec i s = .next { s with result := .byte b }
    (∃ b : Byte, gives (.praR c) b ∧ ∀ k, k < 8 → b.getLsbD k = pin x.portA k)
    ∧ (∃ b : Byte, gives (.prbR c) b ∧ (∀ k, k < 6 → b.getLsbD k = pin x.portB k)
        ∧ b.getLsbD 6 = (if x.timerA.cr.getLsbD 1
            then (if x.timerA.cr.getLsbD 2 then x.timerA.toggleOutput else x.timerA.pulseOutput) else pin x.portB 6)
        ∧ b.getLsbD 7 = (if x.timerB.cr.getLsbD 1
            then (if x.timerB.cr.getLsbD 2 then x.timerB.toggleOutput else x.timerB.pulseOutput) else pin x.portB 7))
    ∧ gives (.ddraR c) x.portA.direction ∧ gives (.ddrbR c) x.portB.direction
    ∧ gives (.taloR c) (BitVec.ofNat 8 x.timerA.count.toNat)
    ∧ gives (.tahiR c) (BitVec.ofNat 8 (x.timerA.count.toNat / 256))
    ∧ gives (.tbloR c) (BitVec.ofNat 8 x.timerB.count.toNat)
    ∧ gives (.tbhiR c) (BitVec.ofNat 8 (x.timerB.count.toNat / 256))
    ∧ gives (.todmidR c) (BitVec.ofNat 8 ((if x.todLatched then x.tod.latch else x.tod.value) / 256))
    ∧ gives (.sdrR c) x.sdr ∧ gives (.craR c) x.timerA.cr ∧ gives (.crbR c) x.timerB.cr

/-- R288, R290, R270: reading TODHI latches, reading TODLO releases; and the three bytes read high, middle, low are the
24 low bits of one value of the counter (all of it at the default `TOD_BITS`), however many pulses come between the
first and the second read and between the second and the third. That the bits which a TOD narrower than 24 bits does not
have read 0, and that no register reads the bits of a wider one above 23, is the model's (DESIGN CHOICE, log 14). -/
def Obligations.TodReadsDoNotTear : Prop :=
  ∀ (c : CiaId) (s : State),
    let x := getCia s c
    let shown := if x.todLatched then x.tod.latch else x.tod.value
    exec (.todhiR c) s = .next { setCia s c { x with tod := { x.tod with latch := shown }, todLatched := true } with
      result := .byte (BitVec.ofNat 8 (shown / 65536)) }
    ∧ exec (.todloR c) s = .next { setCia s c { x with todLatched := false } with
      result := .byte (BitVec.ofNat 8 shown) }
    ∧ (x.todLatched = false → ∀ n m, ∃ s1 s2 s3 hi mid lo,
        exec (.todhiR c) s = .next s1 ∧ s1.result = .byte hi
        ∧ exec (.todmidR c) (updateCia s1 c ((pulseTod s.cfg.todBits)^[n])) = .next s2 ∧ s2.result = .byte mid
        ∧ exec (.todloR c) (updateCia s2 c ((pulseTod s.cfg.todBits)^[m])) = .next s3 ∧ s3.result = .byte lo
        ∧ 65536 * hi.toNat + 256 * mid.toNat + lo.toNat = x.tod.value % 2 ^ 24
        ∧ (getCia s3 c).todLatched = false)

/-- R293, R381: the ICR read hands over the pending sources with the line in bit 7 and clears both; a second read finds
nothing. -/
def Obligations.IcrReadAcknowledges : Prop :=
  ∀ (c : CiaId) (s : State), ∃ t b, exec (.icrR c) s = .next t
    ∧ t = { setCia s c { getCia s c with icr := 0, irq := false } with result := .byte b }
    ∧ (∀ k, k < 5 → b.getLsbD k = (getCia s c).icr.getLsbD k)
    ∧ b.getLsbD 5 = false ∧ b.getLsbD 6 = false ∧ b.getLsbD 7 = (getCia s c).irq
    ∧ exec (.icrR c) t = .next { t with result := .byte 0 }

/-- R273, R291, R296 to R303, R307: the port registers, the timer latches, the unused register 0xB, and what a CIA drives
on its port pins. A high latch byte loads the count of a stopped timer. That a direct read of register 0xB can be
requested, and that it answers `noValue` for the spec's `none`, is the model's (DESIGN CHOICE, log 5). -/
def Obligations.CiaPortAndLatchWrites : Prop :=
  ∀ (c : CiaId) (v : Byte) (s : State),
    let x := getCia s c
    let leaves (i : Instr) (y : Cia) : Prop := exec i s = .next (setCia s c y)
    leaves (.praW c v) { x with portA := { x.portA with register := v } }
    ∧ leaves (.prbW c v) { x with portB := { x.portB with register := v } }
    ∧ leaves (.ddraW c v) { x with portA := { x.portA with direction := v } }
    ∧ leaves (.ddrbW c v) { x with portB := { x.portB with direction := v } }
    ∧ (∃ l : Word, l.toNat = 256 * (x.timerA.latch.toNat / 256) + v.toNat
        ∧ leaves (.taloW c v) { x with timerA := { x.timerA with latch := l } })
    ∧ (∃ l : Word, l.toNat = 256 * v.toNat + x.timerA.latch.toNat % 256
        ∧ leaves (.tahiW c v) { x with timerA := { x.timerA with
            latch := l, count := if x.timerA.cr.getLsbD 0 then x.timerA.count else l } })
    ∧ (∃ l : Word, l.toNat = 256 * (x.timerB.latch.toNat / 256) + v.toNat
        ∧ leaves (.tbloW c v) { x with timerB := { x.timerB with latch := l } })
    ∧ (∃ l : Word, l.toNat = 256 * v.toNat + x.timerB.latch.toNat % 256
        ∧ leaves (.tbhiW c v) { x with timerB := { x.timerB with
            latch := l, count := if x.timerB.cr.getLsbD 0 then x.timerB.count else l } })
    ∧ (portADrive x = (x.portA.register, x.portA.direction)
        ∧ (∀ k, k < 6 → (portBDrive x).1.getLsbD k = x.portB.register.getLsbD k
            ∧ (portBDrive x).2.getLsbD k = x.portB.direction.getLsbD k)
        ∧ ∀ k t, (k = 6 ∧ t = x.timerA) ∨ (k = 7 ∧ t = x.timerB) →
            (portBDrive x).1.getLsbD k = (if t.cr.getLsbD 1
                then (if t.cr.getLsbD 2 then t.toggleOutput else t.pulseOutput) else x.portB.register.getLsbD k)
              ∧ (portBDrive x).2.getLsbD k = (t.cr.getLsbD 1 || x.portB.direction.getLsbD k))
    ∧ exec (.regbW c v) s = .next s
    ∧ exec (.regbR c) s = .next { s with result := .noValue }

/-- R304, R305, R306: a TOD byte goes to the alarm or the counter as CRB bit 7 says; in counter mode the high byte stops
the counter and the low byte starts it. In a counter narrower than 24 bits the bits it does not have are dropped
(DESIGN CHOICE, log 14); in one of 24 bits or more, whose numbers fit it, nothing is. -/
def Obligations.TodWrites : Prop :=
  ∀ (c : CiaId) (v : Byte) (s : State),
    let x := getCia s c
    let leaves (i : Instr) (y : Cia) : Prop := exec i s = .next (setCia s c y)
    let size := 2 ^ s.cfg.todBits
    let low (old new : Nat) : Prop := new = (256 * (old / 256) + v.toNat) % size
    let mid (old new : Nat) : Prop := new = (65536 * (old / 65536) + 256 * v.toNat + old % 256) % size
    let high (old new : Nat) : Prop := new = (16777216 * (old / 16777216) + 65536 * v.toNat + old % 65536) % size
    (∀ old, 24 ≤ s.cfg.todBits → old < size →
      256 * (old / 256) + v.toNat < size ∧ 65536 * (old / 65536) + 256 * v.toNat + old % 256 < size
        ∧ 16777216 * (old / 16777216) + 65536 * v.toNat + old % 65536 < size)
    ∧ (x.timerB.cr.getLsbD 7 = true →
      (∃ n, low x.tod.alarm n ∧ leaves (.todloW c v) { x with tod := { x.tod with alarm := n } })
      ∧ (∃ n, mid x.tod.alarm n ∧ leaves (.todmidW c v) { x with tod := { x.tod with alarm := n } })
      ∧ ∃ n, high x.tod.alarm n ∧ leaves (.todhiW c v) { x with tod := { x.tod with alarm := n } })
    ∧ (x.timerB.cr.getLsbD 7 = false →
      (∃ n, low x.tod.value n ∧ leaves (.todloW c v) { x with tod := { x.tod with value := n }, todStopped := false })
      ∧ (∃ n, mid x.tod.value n ∧ leaves (.todmidW c v) { x with tod := { x.tod with value := n } })
      ∧ ∃ n, high x.tod.value n ∧ leaves (.todhiW c v) { x with tod := { x.tod with value := n }, todStopped := true })

/-- R308, R309: the mask's set/clear protocol bit by bit, with the line raised by a source already pending; the serial
data register, refused in output mode. -/
def Obligations.MaskAndSerialWrites : Prop :=
  ∀ (c : CiaId) (v : Byte) (s : State),
    let x := getCia s c
    (∃ m : Byte, (∀ k, k < 5 → m.getLsbD k = if v.getLsbD k then v.getLsbD 7 else x.imr.getLsbD k)
      ∧ (∀ k, 5 ≤ k → m.getLsbD k = x.imr.getLsbD k)
      ∧ exec (.imrW c v) s = .next (setCia s c { x with imr := m, irq := x.irq || decide (x.icr &&& m ≠ 0) }))
    ∧ (x.timerA.cr.getLsbD 6 = false → exec (.sdrW c v) s = .next (setCia s c { x with sdr := v }))
    ∧ (x.timerA.cr.getLsbD 6 = true → exec (.sdrW c v) s = .refused .ciaSerialOutputNotSpecified)

/-- R272, R274, R310, R311: the control registers: bit 4 loads the count and is not stored, a start sets the toggle
output, and a count source other than ticks is refused. -/
def Obligations.ControlRegisterWrites : Prop :=
  ∀ (c : CiaId) (v : Byte) (s : State),
    let x := getCia s c
    let written (t : Timer) : Timer := { t with
      cr := v &&& 0xEF
      count := if v.getLsbD 4 then t.latch else t.count
      toggleOutput := t.toggleOutput || (v.getLsbD 0 && !t.cr.getLsbD 0) }
    (v.getLsbD 5 = false → exec (.craW c v) s = .next (setCia s c { x with timerA := written x.timerA }))
    ∧ (v.getLsbD 5 = true → exec (.craW c v) s = .refused .ciaInputModeNotSpecified)
    ∧ (v.getLsbD 5 = false → v.getLsbD 6 = false →
      exec (.crbW c v) s = .next (setCia s c { x with timerB := written x.timerB }))
    ∧ (v.getLsbD 5 = true ∨ v.getLsbD 6 = true → exec (.crbW c v) s = .refused .ciaInputModeNotSpecified)

/-- R267, R293: an interrupt line that is up falls only when that CIA's ICR is read, or by a reset or a snapshot load. -/
def Obligations.LineFallsOnlyByItsAcknowledge : Prop :=
  ∀ (i : Instr) (c : CiaId) (s t : State), exec i s = .next t →
    (getCia s c).irq = true → (getCia t c).irq = false →
    i = .icrR c ∨ (∃ addr, i = .peek addr ∧ regionOf s (cpuAddr addr) = .cia c 13)
      ∨ (∃ hard, i = .reset hard) ∨ ∃ b, i = .snapload b

/-! ## The Zorro mapper -/

/-- R322, R323, R324, R326, R327, R328: the accesses of the mapped autoconfig window, and the default ROM: each nybble of
the sixteen descriptor bytes in bits 7..4 of an even offset, inverted but for the first byte's. With the window not
mapped (R331) a direct access reaches Fast RAM if that covers the address, else it is unmapped; that the rows, issued
directly, stand for the CPU-space access at the window's address, whatever other rows the map has, is the model's
(DESIGN CHOICE, log 17), and so is that a configured ROM's byte is read at every offset, those of R324 among them
(DESIGN CHOICE, log 22). -/
def Obligations.AutoconfigAccesses : Prop :=
  ∀ (off : BitVec 16) (v : Byte) (s : State),
    (0 < s.cfg.fastRamSize.bytes ∧ s.zorro.fastRamConfigState = 0 →
      exec (.autoconfRead off) s = .next { s with result := .byte (autoconfigRom s.cfg off.toNat) }
      ∧ (s.cfg.romRows = [] → off.toNat % 2 = 1 ∨ 0x40 ≤ off.toNat → autoconfigRom s.cfg off.toNat = 0xFF)
      ∧ (s.cfg.romRows = [] → off.toNat % 2 = 0 → off.toNat < 0x40 →
        let sizeCode := if s.cfg.fastRamSize.bytes = 0x800000 then 0 else Nat.log2 (s.cfg.fastRamSize.bytes / 0x10000) + 1
        let descriptor : List Nat := [0xE0 + sizeCode, s.cfg.zorroProduct.toNat, 0x80, 0,
          s.cfg.zorroManufacturer.toNat / 256, s.cfg.zorroManufacturer.toNat % 256,
          s.cfg.zorroSerial.toNat / 16777216, s.cfg.zorroSerial.toNat / 65536 % 256,
          s.cfg.zorroSerial.toNat / 256 % 256, s.cfg.zorroSerial.toNat % 256, 0, 0, 0, 0, 0, 0]
        let b := descriptor[off.toNat / 4]?.getD 0
        let nyb := if off.toNat % 4 = 0 then b / 16 else b % 16
        (autoconfigRom s.cfg off.toNat).toNat = 16 * (if off.toNat < 4 then nyb else 15 - nyb) + 15)
      ∧ (∃ b : Long, b.toNat = 16777216 * (s.zorro.fastRamBaseAddress.toNat / 16777216)
            + 1048576 * (v.toNat / 16) + s.zorro.fastRamBaseAddress.toNat % 1048576
          ∧ exec (.autoconfBaseHi v) s
              = .next { s with zorro := { fastRamBaseAddress := b, fastRamConfigState := 1 } })
      ∧ (∃ b : Long, b.toNat = 1048576 * (s.zorro.fastRamBaseAddress.toNat / 1048576)
            + 65536 * (v.toNat / 16) + s.zorro.fastRamBaseAddress.toNat % 65536
          ∧ exec (.autoconfBaseLo v) s = .next { s with zorro := { s.zorro with fastRamBaseAddress := b } })
      ∧ exec (.autoconfShutup v) s = .next { s with zorro := { s.zorro with fastRamConfigState := 2 } })
    ∧ (s.cfg.fastRamSize.bytes = 0 ∨ s.zorro.fastRamConfigState ≠ 0 →
      ∀ a, a = (autoconfigBase s.cfg.addressMap + off.toNat) % 2 ^ 24 →
        (inFastRam s a = false → exec (.autoconfRead off) s = .next { s with
          events := s.events ++ [.unmapped (BitVec.ofNat 24 a) .read], result := .unmapped })
        ∧ (inFastRam s a = true → exec (.autoconfRead off) s = .next { s with
          result := .byte (fastByte s (a - s.zorro.fastRamBaseAddress.toNat)) })
        ∧ ∀ i, (off = 0x48 ∧ i = .autoconfBaseHi v) ∨ (off = 0x4A ∧ i = .autoconfBaseLo v)
            ∨ (off = 0x4C ∧ i = .autoconfShutup v) →
          (inFastRam s a = false → exec i s = .next { s with
            events := s.events ++ [.unmapped (BitVec.ofNat 24 a) .write], result := .unmapped })
          ∧ (inFastRam s a = true → ∃ m, exec i s = .next { s with fastRam := m }
            ∧ ∀ x, fastByte { s with fastRam := m } x
                = if x = a - s.zorro.fastRamBaseAddress.toNat then v else fastByte s x))

/-- R334, in the default map: while unconfigured the window reads as the ROM; a POKE of offset 0x48 configures; from
then on a byte poked into the Fast RAM window is the byte peeked there. That a configured ROM's byte is read at
every offset, those of R324 among them, is the model's (DESIGN CHOICE, log 22). -/
def Obligations.AutoconfigHandshakeMapsFastRam : Prop :=
  ∀ (v : Byte) (s : State), s.cfg.addressMap = defaultAddressMap → 0 < s.cfg.fastRamSize.bytes →
    s.zorro.fastRamConfigState = 0 →
    (∀ off, off < 0x10000 →
      exec (.peek (0xE80000 + off)) s = .next { s with result := .byte (autoconfigRom s.cfg off) })
    ∧ ∃ t, exec (.poke 0xE80048 v) s = .next t ∧ t.zorro.fastRamConfigState = 1
      ∧ ∀ off w, off < s.cfg.fastRamSize.bytes → t.zorro.fastRamBaseAddress.toNat + off < 2 ^ 24 →
        regionOf t (t.zorro.fastRamBaseAddress.toNat + off) = .fastRam off →
        ∃ u, exec (.poke (t.zorro.fastRamBaseAddress.toNat + off) w) t = .next u
          ∧ exec (.peek (t.zorro.fastRamBaseAddress.toNat + off)) u = .next { u with result := .byte w }
          ∧ ∀ x, x ≠ off → fastByte u x = fastByte t x

/-! ## The host port -/

/-- R76, R77, R79: what each address of the default map selects; the first row that matches wins. -/
def Obligations.DefaultMapRegions : Prop :=
  ∀ (s : State) (a : Nat), s.cfg.addressMap = defaultAddressMap → a < 2 ^ 24 →
    (a ≤ 0x1FFFFF → regionOf s a = .chip (a % s.cfg.chipRamSize))
    ∧ (∀ n, n < 16 → a = 0xBFE001 + 0x100 * n → regionOf s a = .cia .a n)
    ∧ (∀ n, n < 16 → a = 0xBFD000 + 0x100 * n → regionOf s a = .cia .b n)
    ∧ (0xDFF000 ≤ a → a ≤ 0xDFF1FF → regionOf s a = .reg (BitVec.ofNat 9 (a - 0xDFF000)))
    ∧ (0xE80000 ≤ a → a ≤ 0xE8FFFF → 0 < s.cfg.fastRamSize.bytes → s.zorro.fastRamConfigState = 0 →
        regionOf s a = .autoconfig (BitVec.ofNat 16 (a - 0xE80000)))
    ∧ (0x1FFFFF < a → (∀ n, n < 16 → a ≠ 0xBFE001 + 0x100 * n) → (∀ n, n < 16 → a ≠ 0xBFD000 + 0x100 * n) →
        (a < 0xDFF000 ∨ 0xDFF1FF < a) →
        (a < 0xE80000 ∨ 0xE8FFFF < a ∨ s.cfg.fastRamSize.bytes = 0 ∨ s.zorro.fastRamConfigState ≠ 0) →
        regionOf s a =
          if s.zorro.fastRamConfigState = 1 ∧ s.zorro.fastRamBaseAddress.toNat ≤ a
              ∧ a < s.zorro.fastRamBaseAddress.toNat + s.cfg.fastRamSize.bytes
          then .fastRam (a - s.zorro.fastRamBaseAddress.toNat) else .unmapped)

/-- R343, R371: a PEEK completes at every address; what it gives for each region, and what it changes. An address that a
row of an embedding system claims (R78), which the default map does not have, is refused (DESIGN CHOICE, log 15). For a
register row with an odd base that the offset tells the two bytes apart (log 23), and for a configured ROM that its byte
is read at the offsets of R324 too (log 22), are the model's (DESIGN CHOICE). -/
def Obligations.PeekReadsTheSelectedRegion : Prop :=
  ∀ (addr : Nat) (s : State),
    let a := addr % 2 ^ 24
    let gives (b : Byte) : Prop := exec (.peek addr) s = .next { s with result := .byte b }
    let missing : Prop := exec (.peek addr) s = .next { s with
      events := s.events ++ [.unmapped (BitVec.ofNat 24 a) .read], result := .unmapped }
    (regionOf s a ≠ .outside → ∃ t, exec (.peek addr) s = .next t)
    ∧ (regionOf s a = .outside → exec (.peek addr) s = .refused .accessOutsideBlock)
    ∧ (∀ o, regionOf s a = .chip o → gives (chipByte s o))
    ∧ (∀ c n i, regionOf s a = .cia c n → n ≠ 11 → ciarRow n c = some i → exec (.peek addr) s = exec i s)
    ∧ (∀ c, regionOf s a = .cia c 11 → missing)
    ∧ (∀ r, regionOf s a = .reg r →
        (∀ i, regrRow (regIndex r) = some i → ∃ w : Word, exec i s = .next { s with result := .word w }
          ∧ gives (BitVec.ofNat 8 (if r.toNat % 2 = 0 then w.toNat / 256 else w.toNat)))
        ∧ (regrRow (regIndex r) = none → missing))
    ∧ (∀ off, regionOf s a = .autoconfig off → gives (autoconfigRom s.cfg off.toNat))
    ∧ (∀ o, regionOf s a = .fastRam o → gives (fastByte s o))
    ∧ (regionOf s a = .unmapped → missing)

/-- R344, R325, R329, R371: what a POKE does in each region; a byte write of a chipset register is refused, and so is an
address that a row of an embedding system claims (R78; DESIGN CHOICE, log 15). -/
def Obligations.PokeWritesTheSelectedRegion : Prop :=
  ∀ (addr : Nat) (v : Byte) (s : State),
    let a := addr % 2 ^ 24
    (regionOf s a = .outside → exec (.poke addr v) s = .refused .accessOutsideBlock)
    ∧ (∀ o, regionOf s a = .chip o → ∃ m, exec (.poke addr v) s = .next { s with chipRam := m }
      ∧ ∀ x, chipByte { s with chipRam := m } x = if x = o then v else chipByte s x)
    ∧ (∀ c n i, regionOf s a = .cia c n → ciawRow n c v = some i → exec (.poke addr v) s = exec i s)
    ∧ (∀ r, regionOf s a = .reg r → exec (.poke addr v) s = .refused .byteWriteToChipsetRegister)
    ∧ (∀ off, regionOf s a = .autoconfig off →
        (∀ i, zorrowRow off.toNat v = some i → exec (.poke addr v) s = exec i s)
        ∧ (zorrowRow off.toNat v = none → exec (.poke addr v) s = .next s))
    ∧ (∀ o, regionOf s a = .fastRam o → ∃ m, exec (.poke addr v) s = .next { s with fastRam := m }
      ∧ ∀ x, fastByte { s with fastRam := m } x = if x = o then v else fastByte s x)
    ∧ (regionOf s a = .unmapped → exec (.poke addr v) s = .next { s with
        events := s.events ++ [.unmapped (BitVec.ofNat 24 a) .write], result := .unmapped })

/-- R107 to R109, R111, R345, R346: the 16-bit register accesses reach the register of the even address; a write the
block does not implement is forwarded, a read of anything else is unmapped (the CPU-space address is that of the default
map). That the unimplemented addresses between the Blitter's registers are forwarded during a blit too, as R108 and R111
say, although they lie in the range that R412 writes, is the model's reading (DEDUCED, log 10). That under another map the
address of the unmapped read is the base of that map's first register row plus the even address, and 0xDFF000 plus it
where the map has no such row, is the model's (DESIGN CHOICE, log 19). -/
def Obligations.RegisterBusAccesses : Prop :=
  ∀ (a : RegAddr) (v : Word) (s : State),
    let r := 2 * (a.toNat / 2)
    (∀ i, regwRow r .host v = some i → exec (.regwrite a v) s = exec i s)
    ∧ (regwRow r .host v = none → exec (.regwrite a v) s
        = .next { s with events := s.events ++ [.regWriteOut .host (BitVec.ofNat 9 r) v] })
    ∧ (∀ i, regrRow r = some i → exec (.regread a) s = exec i s ∧ ∃ t, exec (.regread a) s = .next t)
    ∧ (regrRow r = none →
      let unmappedAt (b : Nat) : Prop := exec (.regread a) s = .next { s with
        events := s.events ++ [.unmapped (BitVec.ofNat 24 (b + r)) .read], result := .unmapped }
      (s.cfg.addressMap = defaultAddressMap → unmappedAt 0xDFF000)
      ∧ (∀ before base after, s.cfg.addressMap = before ++ .regs base :: after →
          (∀ b, MapRow.regs b ∉ before) → unmappedAt base)
      ∧ ((∀ b, MapRow.regs b ∉ s.cfg.addressMap) → unmappedAt 0xDFF000))

/-- R348, R349: the size reported is the length of the encoding; SNAPSAVE gives exactly those bytes or is refused. The
encoding is the model's choice of a codec, the reference codec of R354 extended (DESIGN CHOICE, log 11), and that the
bytes written are part of the result is the model's (DESIGN CHOICE, log 20); for frame numbers, dividers and TOD widths
that R354 covers, the size is R354's. -/
def Obligations.SnapshotSizeAndSave : Prop :=
  ∀ (cap : Nat) (s : State),
    exec .snapsize s = .next { s with result := .size (encodeState s).length }
    ∧ ((encodeState s).length ≤ cap →
        exec (.snapsave cap) s = .next { s with result := .saved (encodeState s).length (encodeState s) })
    ∧ (cap < (encodeState s).length → exec (.snapsave cap) s = .refused .snapshotBufferTooSmall)
    ∧ (s.frame.sequenceNumber < 2 ^ 64 - 1 → s.cfg.ciaDivider ≤ 65536 → s.cfg.todBits = 24 →
        (encodeState s).length = 174 + s.cfg.chipRamSize + s.cfg.fastRamSize.bytes)

/-- Law L1 of R347: what SNAPSAVE wrote, followed by anything, loads as the state that was saved, and exactly its bytes
are consumed. For every valid configuration and every state the block can be in (log 12). -/
def Obligations.SnapshotRoundTrip : Prop :=
  ∀ (s u : State) (rest : List Byte), s.Inv → u.cfg = s.cfg →
    ∃ t, exec (.snapload (encodeState s ++ rest)) u = .next t
      ∧ t.result = .consumed (encodeState s).length ∧ sameMachine s t
      ∧ t.cfg = u.cfg ∧ t.requests = u.requests ∧ t.events = u.events ∧ t.epoch = u.epoch

/-- Law L2 of R347 with R350: a buffer that does not begin with the encoding of a legal state loads nothing: the failure
is reported with 0 bytes consumed and the state is left unchanged. An empty buffer always fails. -/
def Obligations.BadSnapshotChangesNothing : Prop :=
  ∀ (b : List Byte) (u : State),
    let failed : Prop := exec (.snapload b) u = .next { u with
      events := u.events ++ [.snapshotLoadFailure], result := .consumed 0 }
    ((∀ s : State, s.cfg = u.cfg → fieldsLegal s = true → ¬ encodeState s <+: b) → failed)
    ∧ (b = [] → failed)

/-- R73, R74, R80: a pointer is reduced by masking; a word written is read back at every pointer with the same reduced
address, high byte first, and no other word changes. -/
def Obligations.ChipWordsReadBack : Prop :=
  ∀ (s : State) (p q : Long) (v : Word),
    (s.cfg.valid = true →
      chipAddr s.cfg p = (p &&& BitVec.ofNat 32 (s.cfg.chipRamSize - 1) &&& ~~~1#32).toNat
      ∧ chipAddr s.cfg p + 1 < s.cfg.chipRamSize)
    ∧ (chipAddr s.cfg q = chipAddr s.cfg p → chipRead16 (chipWrite16 s p v) q = v)
    ∧ (chipAddr s.cfg q ≠ chipAddr s.cfg p → chipRead16 (chipWrite16 s p v) q = chipRead16 s q)
    ∧ (chipByte (chipWrite16 s p v) (chipAddr s.cfg p)).toNat = v.toNat / 256
    ∧ (chipByte (chipWrite16 s p v) (chipAddr s.cfg p + 1)).toNat = v.toNat % 256
end

