-- ==== Sys2Proof/Laws/Bits.lean ====
section
/-! SUPPORT. The laws of halves, bytes and the big-endian order. -/

namespace Sys2Proof

@[simp] theorem wordHi_wordOf (hi lo : Byte) : wordHi (wordOf hi lo) = hi := by
  simp only [wordHi, wordOf]; ext i hi'
  simp only [BitVec.getElem_extractLsb', BitVec.getLsbD_append]
  simp [hi', BitVec.getLsbD_eq_getElem]

@[simp] theorem wordLo_wordOf (hi lo : Byte) : wordLo (wordOf hi lo) = lo := by
  simp only [wordLo, wordOf]; ext i hi'
  simp only [BitVec.getElem_extractLsb', BitVec.getLsbD_append]
  simp [hi', BitVec.getLsbD_eq_getElem]

@[simp] theorem wordOf_wordHi_wordLo (v : Word) : wordOf (wordHi v) (wordLo v) = v := by
  simp only [wordHi, wordLo, wordOf]; ext i hi'
  simp only [BitVec.getElem_append, BitVec.getElem_extractLsb']
  split
  · simp [BitVec.getLsbD_eq_getElem, hi']
  · rw [show 8 + (i - 8) = i by omega]; simp [BitVec.getLsbD_eq_getElem, hi']

@[simp] theorem longHi_longOf (hi lo : Word) : longHi (longOf hi lo) = hi := by
  simp only [longHi, longOf]; ext i hi'
  simp only [BitVec.getElem_extractLsb', BitVec.getLsbD_append]
  simp [hi', BitVec.getLsbD_eq_getElem]

@[simp] theorem longLo_longOf (hi lo : Word) : longLo (longOf hi lo) = lo := by
  simp only [longLo, longOf]; ext i hi'
  simp only [BitVec.getElem_extractLsb', BitVec.getLsbD_append]
  simp [hi', BitVec.getLsbD_eq_getElem]

@[simp] theorem longHi_setHighHalf (p : Long) (v : Word) : longHi (setHighHalf p v) = v := by simp [setHighHalf]
@[simp] theorem longLo_setHighHalf (p : Long) (v : Word) : longLo (setHighHalf p v) = longLo p := by simp [setHighHalf]
@[simp] theorem longHi_setLowHalf (p : Long) (v : Word) : longHi (setLowHalf p v) = longHi p := by simp [setLowHalf]
@[simp] theorem longLo_setLowHalf (p : Long) (v : Word) : longLo (setLowHalf p v) = v := by simp [setLowHalf]

theorem toNat_wordOf (hi lo : Byte) : (wordOf hi lo).toNat = 256 * hi.toNat + lo.toNat := by
  simp only [wordOf, BitVec.toNat_append]
  rw [Nat.shiftLeft_eq, ← Nat.shiftLeft_eq, ← Nat.shiftLeft_add_eq_or_of_lt lo.isLt, Nat.shiftLeft_eq]; omega

@[simp] theorem getLsbD_wordOfBits (f : Nat → Bool) (i : Nat) (h : i < 16) : (wordOfBits f).getLsbD i = f i := by
  simp [wordOfBits, h]

/-! ### Big-endian bytes -/

@[simp] theorem length_bigEndian (k n : Nat) : (bigEndian k n).length = k := by
  induction k with
  | zero => rfl
  | succ k ih => simp [bigEndian, ih]

theorem foldl_bytes (bs : List Byte) (n : Nat) :
    bs.foldl (fun n b => 256 * n + b.toNat) n = n * 256 ^ bs.length + ofBigEndian bs := by
  induction bs generalizing n with
  | nil => simp [ofBigEndian]
  | cons b rest ih =>
    have h0 : ofBigEndian (b :: rest) = b.toNat * 256 ^ rest.length + ofBigEndian rest := by
      simp only [ofBigEndian, List.foldl_cons]; rw [ih]; simp [ofBigEndian]
    rw [List.foldl_cons, ih, h0, List.length_cons, pow_succ]
    ring

theorem ofBigEndian_cons (b : Byte) (bs : List Byte) :
    ofBigEndian (b :: bs) = b.toNat * 256 ^ bs.length + ofBigEndian bs := by
  rw [ofBigEndian, List.foldl_cons, foldl_bytes]; simp

/-- Reading back `k` bytes of a number gives the number modulo `256 ^ k`. -/
theorem ofBigEndian_bigEndian (k n : Nat) : ofBigEndian (bigEndian k n) = n % 256 ^ k := by
  induction k with
  | zero => simp [bigEndian, ofBigEndian, Nat.mod_one]
  | succ k ih =>
    rw [bigEndian, ofBigEndian_cons, ih, length_bigEndian]
    have h : (BitVec.ofNat 8 (n >>> (8 * k))).toNat = n / 256 ^ k % 256 := by
      simp [Nat.shiftRight_eq_div_pow, pow_mul]
    rw [h, pow_succ, Nat.mod_mul, mul_comm]
    omega

theorem ofBigEndian_lt (bs : List Byte) : ofBigEndian bs < 256 ^ bs.length := by
  induction bs with
  | nil => simp [ofBigEndian]
  | cons b rest ih =>
    have hb := b.isLt
    have hp : 0 < 256 ^ rest.length := by positivity
    rw [ofBigEndian_cons, List.length_cons, pow_succ]
    nlinarith

/-- Writing a number that was read from bytes gives the bytes. -/
theorem bigEndian_ofBigEndian (bs : List Byte) : bigEndian bs.length (ofBigEndian bs) = bs := by
  induction bs with
  | nil => rfl
  | cons b rest ih =>
    have hlt := ofBigEndian_lt rest
    have hp : 0 < 256 ^ rest.length := by positivity
    have key : ∀ (k n m : Nat), bigEndian k (m * 256 ^ k + n) = bigEndian k n := by
      intro k
      induction k with
      | zero => intros; rfl
      | succ k ihk =>
        intro n m
        simp only [bigEndian]
        congr 1
        · apply BitVec.eq_of_toNat_eq
          simp only [BitVec.toNat_ofNat, Nat.shiftRight_eq_div_pow, pow_mul, show 2 ^ 8 = 256 from rfl]
          rw [show m * 256 ^ (k + 1) + n = n + (256 * m) * 256 ^ k by ring,
            Nat.add_mul_div_right _ _ (by positivity)]
          omega
        · rw [show m * 256 ^ (k + 1) + n = (256 * m) * 256 ^ k + n by ring, ihk]
    rw [List.length_cons, bigEndian, ofBigEndian_cons, key, ih]
    congr 1
    apply BitVec.eq_of_toNat_eq
    simp only [BitVec.toNat_ofNat, Nat.shiftRight_eq_div_pow, pow_mul, show 2 ^ 8 = 256 from rfl]
    rw [show b.toNat * 256 ^ rest.length + ofBigEndian rest = ofBigEndian rest + b.toNat * 256 ^ rest.length by ring,
      Nat.add_mul_div_right _ _ hp, Nat.div_eq_of_lt hlt]
    have := b.isLt
    omega

end Sys2Proof
end

