-- ==== Sys2Proof/Laws/State.lean ====
section
/-! SUPPORT. The fields of the state after each named operation: one lemma per field the operation leaves alone, and
what it puts in the others. -/

namespace Sys2Proof.Machine

/-! ### setChipByte -/

@[simp] theorem setChipByte_frame (s : State) (a : Nat) (v : Byte) : (setChipByte s a v).frame = s.frame := rfl
@[simp] theorem setChipByte_line (s : State) (a : Nat) (v : Byte) : (setChipByte s a v).line = s.line := rfl
@[simp] theorem setChipByte_cycle (s : State) (a : Nat) (v : Byte) : (setChipByte s a v).cycle = s.cycle := rfl
@[simp] theorem setChipByte_agnus (s : State) (a : Nat) (v : Byte) : (setChipByte s a v).agnus = s.agnus := rfl
@[simp] theorem setChipByte_cop (s : State) (a : Nat) (v : Byte) : (setChipByte s a v).cop = s.cop := rfl
@[simp] theorem setChipByte_blt (s : State) (a : Nat) (v : Byte) : (setChipByte s a v).blt = s.blt := rfl
@[simp] theorem setChipByte_ciaA (s : State) (a : Nat) (v : Byte) : (setChipByte s a v).ciaA = s.ciaA := rfl
@[simp] theorem setChipByte_ciaB (s : State) (a : Nat) (v : Byte) : (setChipByte s a v).ciaB = s.ciaB := rfl
@[simp] theorem setChipByte_zorro (s : State) (a : Nat) (v : Byte) : (setChipByte s a v).zorro = s.zorro := rfl
@[simp] theorem setChipByte_fastRam (s : State) (a : Nat) (v : Byte) : (setChipByte s a v).fastRam = s.fastRam := rfl
@[simp] theorem setChipByte_result (s : State) (a : Nat) (v : Byte) : (setChipByte s a v).result = s.result := rfl
@[simp] theorem setChipByte_events (s : State) (a : Nat) (v : Byte) : (setChipByte s a v).events = s.events := rfl
@[simp] theorem setChipByte_cfg (s : State) (a : Nat) (v : Byte) : (setChipByte s a v).cfg = s.cfg := rfl
@[simp] theorem setChipByte_requests (s : State) (a : Nat) (v : Byte) : (setChipByte s a v).requests = s.requests := rfl
@[simp] theorem setChipByte_epoch (s : State) (a : Nat) (v : Byte) : (setChipByte s a v).epoch = s.epoch := rfl

/-! ### setFastByte -/

@[simp] theorem setFastByte_frame (s : State) (a : Nat) (v : Byte) : (setFastByte s a v).frame = s.frame := rfl
@[simp] theorem setFastByte_line (s : State) (a : Nat) (v : Byte) : (setFastByte s a v).line = s.line := rfl
@[simp] theorem setFastByte_cycle (s : State) (a : Nat) (v : Byte) : (setFastByte s a v).cycle = s.cycle := rfl
@[simp] theorem setFastByte_agnus (s : State) (a : Nat) (v : Byte) : (setFastByte s a v).agnus = s.agnus := rfl
@[simp] theorem setFastByte_cop (s : State) (a : Nat) (v : Byte) : (setFastByte s a v).cop = s.cop := rfl
@[simp] theorem setFastByte_blt (s : State) (a : Nat) (v : Byte) : (setFastByte s a v).blt = s.blt := rfl
@[simp] theorem setFastByte_ciaA (s : State) (a : Nat) (v : Byte) : (setFastByte s a v).ciaA = s.ciaA := rfl
@[simp] theorem setFastByte_ciaB (s : State) (a : Nat) (v : Byte) : (setFastByte s a v).ciaB = s.ciaB := rfl
@[simp] theorem setFastByte_zorro (s : State) (a : Nat) (v : Byte) : (setFastByte s a v).zorro = s.zorro := rfl
@[simp] theorem setFastByte_chipRam (s : State) (a : Nat) (v : Byte) : (setFastByte s a v).chipRam = s.chipRam := rfl
@[simp] theorem setFastByte_result (s : State) (a : Nat) (v : Byte) : (setFastByte s a v).result = s.result := rfl
@[simp] theorem setFastByte_events (s : State) (a : Nat) (v : Byte) : (setFastByte s a v).events = s.events := rfl
@[simp] theorem setFastByte_cfg (s : State) (a : Nat) (v : Byte) : (setFastByte s a v).cfg = s.cfg := rfl
@[simp] theorem setFastByte_requests (s : State) (a : Nat) (v : Byte) : (setFastByte s a v).requests = s.requests := rfl
@[simp] theorem setFastByte_epoch (s : State) (a : Nat) (v : Byte) : (setFastByte s a v).epoch = s.epoch := rfl

/-! ### chipWrite16 -/

@[simp] theorem chipWrite16_frame (s : State) (p : Long) (v : Word) : (chipWrite16 s p v).frame = s.frame := rfl
@[simp] theorem chipWrite16_line (s : State) (p : Long) (v : Word) : (chipWrite16 s p v).line = s.line := rfl
@[simp] theorem chipWrite16_cycle (s : State) (p : Long) (v : Word) : (chipWrite16 s p v).cycle = s.cycle := rfl
@[simp] theorem chipWrite16_agnus (s : State) (p : Long) (v : Word) : (chipWrite16 s p v).agnus = s.agnus := rfl
@[simp] theorem chipWrite16_cop (s : State) (p : Long) (v : Word) : (chipWrite16 s p v).cop = s.cop := rfl
@[simp] theorem chipWrite16_blt (s : State) (p : Long) (v : Word) : (chipWrite16 s p v).blt = s.blt := rfl
@[simp] theorem chipWrite16_ciaA (s : State) (p : Long) (v : Word) : (chipWrite16 s p v).ciaA = s.ciaA := rfl
@[simp] theorem chipWrite16_ciaB (s : State) (p : Long) (v : Word) : (chipWrite16 s p v).ciaB = s.ciaB := rfl
@[simp] theorem chipWrite16_zorro (s : State) (p : Long) (v : Word) : (chipWrite16 s p v).zorro = s.zorro := rfl
@[simp] theorem chipWrite16_fastRam (s : State) (p : Long) (v : Word) : (chipWrite16 s p v).fastRam = s.fastRam := rfl
@[simp] theorem chipWrite16_result (s : State) (p : Long) (v : Word) : (chipWrite16 s p v).result = s.result := rfl
@[simp] theorem chipWrite16_events (s : State) (p : Long) (v : Word) : (chipWrite16 s p v).events = s.events := rfl
@[simp] theorem chipWrite16_cfg (s : State) (p : Long) (v : Word) : (chipWrite16 s p v).cfg = s.cfg := rfl
@[simp] theorem chipWrite16_requests (s : State) (p : Long) (v : Word) : (chipWrite16 s p v).requests = s.requests := rfl
@[simp] theorem chipWrite16_epoch (s : State) (p : Long) (v : Word) : (chipWrite16 s p v).epoch = s.epoch := rfl

/-! ### emit -/

@[simp] theorem emit_frame (s : State) (e : Event) : (emit s e).frame = s.frame := rfl
@[simp] theorem emit_line (s : State) (e : Event) : (emit s e).line = s.line := rfl
@[simp] theorem emit_cycle (s : State) (e : Event) : (emit s e).cycle = s.cycle := rfl
@[simp] theorem emit_agnus (s : State) (e : Event) : (emit s e).agnus = s.agnus := rfl
@[simp] theorem emit_cop (s : State) (e : Event) : (emit s e).cop = s.cop := rfl
@[simp] theorem emit_blt (s : State) (e : Event) : (emit s e).blt = s.blt := rfl
@[simp] theorem emit_ciaA (s : State) (e : Event) : (emit s e).ciaA = s.ciaA := rfl
@[simp] theorem emit_ciaB (s : State) (e : Event) : (emit s e).ciaB = s.ciaB := rfl
@[simp] theorem emit_zorro (s : State) (e : Event) : (emit s e).zorro = s.zorro := rfl
@[simp] theorem emit_chipRam (s : State) (e : Event) : (emit s e).chipRam = s.chipRam := rfl
@[simp] theorem emit_fastRam (s : State) (e : Event) : (emit s e).fastRam = s.fastRam := rfl
@[simp] theorem emit_result (s : State) (e : Event) : (emit s e).result = s.result := rfl
@[simp] theorem emit_cfg (s : State) (e : Event) : (emit s e).cfg = s.cfg := rfl
@[simp] theorem emit_requests (s : State) (e : Event) : (emit s e).requests = s.requests := rfl
@[simp] theorem emit_epoch (s : State) (e : Event) : (emit s e).epoch = s.epoch := rfl

/-! ### setResult -/

@[simp] theorem setResult_frame (s : State) (r : Result) : (setResult s r).frame = s.frame := rfl
@[simp] theorem setResult_line (s : State) (r : Result) : (setResult s r).line = s.line := rfl
@[simp] theorem setResult_cycle (s : State) (r : Result) : (setResult s r).cycle = s.cycle := rfl
@[simp] theorem setResult_agnus (s : State) (r : Result) : (setResult s r).agnus = s.agnus := rfl
@[simp] theorem setResult_cop (s : State) (r : Result) : (setResult s r).cop = s.cop := rfl
@[simp] theorem setResult_blt (s : State) (r : Result) : (setResult s r).blt = s.blt := rfl
@[simp] theorem setResult_ciaA (s : State) (r : Result) : (setResult s r).ciaA = s.ciaA := rfl
@[simp] theorem setResult_ciaB (s : State) (r : Result) : (setResult s r).ciaB = s.ciaB := rfl
@[simp] theorem setResult_zorro (s : State) (r : Result) : (setResult s r).zorro = s.zorro := rfl
@[simp] theorem setResult_chipRam (s : State) (r : Result) : (setResult s r).chipRam = s.chipRam := rfl
@[simp] theorem setResult_fastRam (s : State) (r : Result) : (setResult s r).fastRam = s.fastRam := rfl
@[simp] theorem setResult_events (s : State) (r : Result) : (setResult s r).events = s.events := rfl
@[simp] theorem setResult_cfg (s : State) (r : Result) : (setResult s r).cfg = s.cfg := rfl
@[simp] theorem setResult_requests (s : State) (r : Result) : (setResult s r).requests = s.requests := rfl
@[simp] theorem setResult_epoch (s : State) (r : Result) : (setResult s r).epoch = s.epoch := rfl

/-! ### raiseUnmapped -/

@[simp] theorem raiseUnmapped_frame (s : State) (a : BitVec 24) (k : AccessKind) : (raiseUnmapped s a k).frame = s.frame := rfl
@[simp] theorem raiseUnmapped_line (s : State) (a : BitVec 24) (k : AccessKind) : (raiseUnmapped s a k).line = s.line := rfl
@[simp] theorem raiseUnmapped_cycle (s : State) (a : BitVec 24) (k : AccessKind) : (raiseUnmapped s a k).cycle = s.cycle := rfl
@[simp] theorem raiseUnmapped_agnus (s : State) (a : BitVec 24) (k : AccessKind) : (raiseUnmapped s a k).agnus = s.agnus := rfl
@[simp] theorem raiseUnmapped_cop (s : State) (a : BitVec 24) (k : AccessKind) : (raiseUnmapped s a k).cop = s.cop := rfl
@[simp] theorem raiseUnmapped_blt (s : State) (a : BitVec 24) (k : AccessKind) : (raiseUnmapped s a k).blt = s.blt := rfl
@[simp] theorem raiseUnmapped_ciaA (s : State) (a : BitVec 24) (k : AccessKind) : (raiseUnmapped s a k).ciaA = s.ciaA := rfl
@[simp] theorem raiseUnmapped_ciaB (s : State) (a : BitVec 24) (k : AccessKind) : (raiseUnmapped s a k).ciaB = s.ciaB := rfl
@[simp] theorem raiseUnmapped_zorro (s : State) (a : BitVec 24) (k : AccessKind) : (raiseUnmapped s a k).zorro = s.zorro := rfl
@[simp] theorem raiseUnmapped_chipRam (s : State) (a : BitVec 24) (k : AccessKind) : (raiseUnmapped s a k).chipRam = s.chipRam := rfl
@[simp] theorem raiseUnmapped_fastRam (s : State) (a : BitVec 24) (k : AccessKind) : (raiseUnmapped s a k).fastRam = s.fastRam := rfl
@[simp] theorem raiseUnmapped_cfg (s : State) (a : BitVec 24) (k : AccessKind) : (raiseUnmapped s a k).cfg = s.cfg := rfl
@[simp] theorem raiseUnmapped_requests (s : State) (a : BitVec 24) (k : AccessKind) : (raiseUnmapped s a k).requests = s.requests := rfl
@[simp] theorem raiseUnmapped_epoch (s : State) (a : BitVec 24) (k : AccessKind) : (raiseUnmapped s a k).epoch = s.epoch := rfl

/-! ### startOperation -/

@[simp] theorem startOperation_frame (s : State) (rest : List Encoded) : (startOperation s rest).frame = s.frame := rfl
@[simp] theorem startOperation_line (s : State) (rest : List Encoded) : (startOperation s rest).line = s.line := rfl
@[simp] theorem startOperation_cycle (s : State) (rest : List Encoded) : (startOperation s rest).cycle = s.cycle := rfl
@[simp] theorem startOperation_agnus (s : State) (rest : List Encoded) : (startOperation s rest).agnus = s.agnus := rfl
@[simp] theorem startOperation_cop (s : State) (rest : List Encoded) : (startOperation s rest).cop = s.cop := rfl
@[simp] theorem startOperation_blt (s : State) (rest : List Encoded) : (startOperation s rest).blt = s.blt := rfl
@[simp] theorem startOperation_ciaA (s : State) (rest : List Encoded) : (startOperation s rest).ciaA = s.ciaA := rfl
@[simp] theorem startOperation_ciaB (s : State) (rest : List Encoded) : (startOperation s rest).ciaB = s.ciaB := rfl
@[simp] theorem startOperation_zorro (s : State) (rest : List Encoded) : (startOperation s rest).zorro = s.zorro := rfl
@[simp] theorem startOperation_chipRam (s : State) (rest : List Encoded) : (startOperation s rest).chipRam = s.chipRam := rfl
@[simp] theorem startOperation_fastRam (s : State) (rest : List Encoded) : (startOperation s rest).fastRam = s.fastRam := rfl
@[simp] theorem startOperation_cfg (s : State) (rest : List Encoded) : (startOperation s rest).cfg = s.cfg := rfl
@[simp] theorem startOperation_epoch (s : State) (rest : List Encoded) : (startOperation s rest).epoch = s.epoch := rfl

/-! ### setCia -/

@[simp] theorem setCia_frame (s : State) (c : CiaId) (x : Cia) : (setCia s c x).frame = s.frame := by cases c <;> rfl
@[simp] theorem setCia_line (s : State) (c : CiaId) (x : Cia) : (setCia s c x).line = s.line := by cases c <;> rfl
@[simp] theorem setCia_cycle (s : State) (c : CiaId) (x : Cia) : (setCia s c x).cycle = s.cycle := by cases c <;> rfl
@[simp] theorem setCia_agnus (s : State) (c : CiaId) (x : Cia) : (setCia s c x).agnus = s.agnus := by cases c <;> rfl
@[simp] theorem setCia_cop (s : State) (c : CiaId) (x : Cia) : (setCia s c x).cop = s.cop := by cases c <;> rfl
@[simp] theorem setCia_blt (s : State) (c : CiaId) (x : Cia) : (setCia s c x).blt = s.blt := by cases c <;> rfl
@[simp] theorem setCia_zorro (s : State) (c : CiaId) (x : Cia) : (setCia s c x).zorro = s.zorro := by cases c <;> rfl
@[simp] theorem setCia_chipRam (s : State) (c : CiaId) (x : Cia) : (setCia s c x).chipRam = s.chipRam := by cases c <;> rfl
@[simp] theorem setCia_fastRam (s : State) (c : CiaId) (x : Cia) : (setCia s c x).fastRam = s.fastRam := by cases c <;> rfl
@[simp] theorem setCia_result (s : State) (c : CiaId) (x : Cia) : (setCia s c x).result = s.result := by cases c <;> rfl
@[simp] theorem setCia_events (s : State) (c : CiaId) (x : Cia) : (setCia s c x).events = s.events := by cases c <;> rfl
@[simp] theorem setCia_cfg (s : State) (c : CiaId) (x : Cia) : (setCia s c x).cfg = s.cfg := by cases c <;> rfl
@[simp] theorem setCia_requests (s : State) (c : CiaId) (x : Cia) : (setCia s c x).requests = s.requests := by cases c <;> rfl
@[simp] theorem setCia_epoch (s : State) (c : CiaId) (x : Cia) : (setCia s c x).epoch = s.epoch := by cases c <;> rfl

/-! ### updateCia -/

@[simp] theorem updateCia_frame (s : State) (c : CiaId) (f : Cia → Cia) : (updateCia s c f).frame = s.frame := by cases c <;> rfl
@[simp] theorem updateCia_line (s : State) (c : CiaId) (f : Cia → Cia) : (updateCia s c f).line = s.line := by cases c <;> rfl
@[simp] theorem updateCia_cycle (s : State) (c : CiaId) (f : Cia → Cia) : (updateCia s c f).cycle = s.cycle := by cases c <;> rfl
@[simp] theorem updateCia_agnus (s : State) (c : CiaId) (f : Cia → Cia) : (updateCia s c f).agnus = s.agnus := by cases c <;> rfl
@[simp] theorem updateCia_cop (s : State) (c : CiaId) (f : Cia → Cia) : (updateCia s c f).cop = s.cop := by cases c <;> rfl
@[simp] theorem updateCia_blt (s : State) (c : CiaId) (f : Cia → Cia) : (updateCia s c f).blt = s.blt := by cases c <;> rfl
@[simp] theorem updateCia_zorro (s : State) (c : CiaId) (f : Cia → Cia) : (updateCia s c f).zorro = s.zorro := by cases c <;> rfl
@[simp] theorem updateCia_chipRam (s : State) (c : CiaId) (f : Cia → Cia) : (updateCia s c f).chipRam = s.chipRam := by cases c <;> rfl
@[simp] theorem updateCia_fastRam (s : State) (c : CiaId) (f : Cia → Cia) : (updateCia s c f).fastRam = s.fastRam := by cases c <;> rfl
@[simp] theorem updateCia_result (s : State) (c : CiaId) (f : Cia → Cia) : (updateCia s c f).result = s.result := by cases c <;> rfl
@[simp] theorem updateCia_events (s : State) (c : CiaId) (f : Cia → Cia) : (updateCia s c f).events = s.events := by cases c <;> rfl
@[simp] theorem updateCia_cfg (s : State) (c : CiaId) (f : Cia → Cia) : (updateCia s c f).cfg = s.cfg := by cases c <;> rfl
@[simp] theorem updateCia_requests (s : State) (c : CiaId) (f : Cia → Cia) : (updateCia s c f).requests = s.requests := by cases c <;> rfl
@[simp] theorem updateCia_epoch (s : State) (c : CiaId) (f : Cia → Cia) : (updateCia s c f).epoch = s.epoch := by cases c <;> rfl

/-! ### advanceRaster -/

@[simp] theorem advanceRaster_cop (s : State) : (advanceRaster s).cop = s.cop := rfl
@[simp] theorem advanceRaster_blt (s : State) : (advanceRaster s).blt = s.blt := rfl
@[simp] theorem advanceRaster_ciaA (s : State) : (advanceRaster s).ciaA = s.ciaA := rfl
@[simp] theorem advanceRaster_ciaB (s : State) : (advanceRaster s).ciaB = s.ciaB := rfl
@[simp] theorem advanceRaster_zorro (s : State) : (advanceRaster s).zorro = s.zorro := rfl
@[simp] theorem advanceRaster_chipRam (s : State) : (advanceRaster s).chipRam = s.chipRam := rfl
@[simp] theorem advanceRaster_fastRam (s : State) : (advanceRaster s).fastRam = s.fastRam := rfl
@[simp] theorem advanceRaster_result (s : State) : (advanceRaster s).result = s.result := rfl
@[simp] theorem advanceRaster_events (s : State) : (advanceRaster s).events = s.events := rfl
@[simp] theorem advanceRaster_cfg (s : State) : (advanceRaster s).cfg = s.cfg := rfl
@[simp] theorem advanceRaster_requests (s : State) : (advanceRaster s).requests = s.requests := rfl
@[simp] theorem advanceRaster_epoch (s : State) : (advanceRaster s).epoch = s.epoch := rfl

/-! ### beginCycle -/

@[simp] theorem beginCycle_cop (i : CycleInputs) (s : State) : (beginCycle i s).cop = s.cop := rfl
@[simp] theorem beginCycle_blt (i : CycleInputs) (s : State) : (beginCycle i s).blt = s.blt := rfl
@[simp] theorem beginCycle_zorro (i : CycleInputs) (s : State) : (beginCycle i s).zorro = s.zorro := rfl
@[simp] theorem beginCycle_chipRam (i : CycleInputs) (s : State) : (beginCycle i s).chipRam = s.chipRam := rfl
@[simp] theorem beginCycle_fastRam (i : CycleInputs) (s : State) : (beginCycle i s).fastRam = s.fastRam := rfl
@[simp] theorem beginCycle_result (i : CycleInputs) (s : State) : (beginCycle i s).result = s.result := rfl
@[simp] theorem beginCycle_events (i : CycleInputs) (s : State) : (beginCycle i s).events = s.events := rfl
@[simp] theorem beginCycle_cfg (i : CycleInputs) (s : State) : (beginCycle i s).cfg = s.cfg := rfl
@[simp] theorem beginCycle_requests (i : CycleInputs) (s : State) : (beginCycle i s).requests = s.requests := rfl
@[simp] theorem beginCycle_epoch (i : CycleInputs) (s : State) : (beginCycle i s).epoch = s.epoch := rfl

/-! ### arbitrate -/

@[simp] theorem arbitrate_frame (i : CycleInputs) (s : State) : (arbitrate i s).frame = s.frame := rfl
@[simp] theorem arbitrate_line (i : CycleInputs) (s : State) : (arbitrate i s).line = s.line := rfl
@[simp] theorem arbitrate_cycle (i : CycleInputs) (s : State) : (arbitrate i s).cycle = s.cycle := rfl
@[simp] theorem arbitrate_cop (i : CycleInputs) (s : State) : (arbitrate i s).cop = s.cop := rfl
@[simp] theorem arbitrate_blt (i : CycleInputs) (s : State) : (arbitrate i s).blt = s.blt := rfl
@[simp] theorem arbitrate_ciaA (i : CycleInputs) (s : State) : (arbitrate i s).ciaA = s.ciaA := rfl
@[simp] theorem arbitrate_ciaB (i : CycleInputs) (s : State) : (arbitrate i s).ciaB = s.ciaB := rfl
@[simp] theorem arbitrate_zorro (i : CycleInputs) (s : State) : (arbitrate i s).zorro = s.zorro := rfl
@[simp] theorem arbitrate_chipRam (i : CycleInputs) (s : State) : (arbitrate i s).chipRam = s.chipRam := rfl
@[simp] theorem arbitrate_fastRam (i : CycleInputs) (s : State) : (arbitrate i s).fastRam = s.fastRam := rfl
@[simp] theorem arbitrate_result (i : CycleInputs) (s : State) : (arbitrate i s).result = s.result := rfl
@[simp] theorem arbitrate_events (i : CycleInputs) (s : State) : (arbitrate i s).events = s.events := rfl
@[simp] theorem arbitrate_cfg (i : CycleInputs) (s : State) : (arbitrate i s).cfg = s.cfg := rfl
@[simp] theorem arbitrate_requests (i : CycleInputs) (s : State) : (arbitrate i s).requests = s.requests := rfl
@[simp] theorem arbitrate_epoch (i : CycleInputs) (s : State) : (arbitrate i s).epoch = s.epoch := rfl

/-! ### copperFetch -/

@[simp] theorem copperFetch_frame (s : State) : (copperFetch s).frame = s.frame := rfl
@[simp] theorem copperFetch_line (s : State) : (copperFetch s).line = s.line := rfl
@[simp] theorem copperFetch_cycle (s : State) : (copperFetch s).cycle = s.cycle := rfl
@[simp] theorem copperFetch_agnus (s : State) : (copperFetch s).agnus = s.agnus := rfl
@[simp] theorem copperFetch_blt (s : State) : (copperFetch s).blt = s.blt := rfl
@[simp] theorem copperFetch_ciaA (s : State) : (copperFetch s).ciaA = s.ciaA := rfl
@[simp] theorem copperFetch_ciaB (s : State) : (copperFetch s).ciaB = s.ciaB := rfl
@[simp] theorem copperFetch_zorro (s : State) : (copperFetch s).zorro = s.zorro := rfl
@[simp] theorem copperFetch_chipRam (s : State) : (copperFetch s).chipRam = s.chipRam := rfl
@[simp] theorem copperFetch_fastRam (s : State) : (copperFetch s).fastRam = s.fastRam := rfl
@[simp] theorem copperFetch_result (s : State) : (copperFetch s).result = s.result := rfl
@[simp] theorem copperFetch_events (s : State) : (copperFetch s).events = s.events := rfl
@[simp] theorem copperFetch_cfg (s : State) : (copperFetch s).cfg = s.cfg := rfl
@[simp] theorem copperFetch_requests (s : State) : (copperFetch s).requests = s.requests := rfl
@[simp] theorem copperFetch_epoch (s : State) : (copperFetch s).epoch = s.epoch := rfl

/-! ### divideCia -/

@[simp] theorem divideCia_frame (s : State) : (divideCia s).frame = s.frame := by unfold divideCia; split <;> rfl
@[simp] theorem divideCia_line (s : State) : (divideCia s).line = s.line := by unfold divideCia; split <;> rfl
@[simp] theorem divideCia_cycle (s : State) : (divideCia s).cycle = s.cycle := by unfold divideCia; split <;> rfl
@[simp] theorem divideCia_cop (s : State) : (divideCia s).cop = s.cop := by unfold divideCia; split <;> rfl
@[simp] theorem divideCia_blt (s : State) : (divideCia s).blt = s.blt := by unfold divideCia; split <;> rfl
@[simp] theorem divideCia_zorro (s : State) : (divideCia s).zorro = s.zorro := by unfold divideCia; split <;> rfl
@[simp] theorem divideCia_chipRam (s : State) : (divideCia s).chipRam = s.chipRam := by unfold divideCia; split <;> rfl
@[simp] theorem divideCia_fastRam (s : State) : (divideCia s).fastRam = s.fastRam := by unfold divideCia; split <;> rfl
@[simp] theorem divideCia_result (s : State) : (divideCia s).result = s.result := by unfold divideCia; split <;> rfl
@[simp] theorem divideCia_events (s : State) : (divideCia s).events = s.events := by unfold divideCia; split <;> rfl
@[simp] theorem divideCia_cfg (s : State) : (divideCia s).cfg = s.cfg := by unfold divideCia; split <;> rfl
@[simp] theorem divideCia_requests (s : State) : (divideCia s).requests = s.requests := by unfold divideCia; split <;> rfl
@[simp] theorem divideCia_epoch (s : State) : (divideCia s).epoch = s.epoch := by unfold divideCia; split <;> rfl

/-! ### deliverTod -/

@[simp] theorem deliverTod_frame (i : CycleInputs) (s : State) : (deliverTod i s).frame = s.frame := rfl
@[simp] theorem deliverTod_line (i : CycleInputs) (s : State) : (deliverTod i s).line = s.line := rfl
@[simp] theorem deliverTod_cycle (i : CycleInputs) (s : State) : (deliverTod i s).cycle = s.cycle := rfl
@[simp] theorem deliverTod_agnus (i : CycleInputs) (s : State) : (deliverTod i s).agnus = s.agnus := rfl
@[simp] theorem deliverTod_cop (i : CycleInputs) (s : State) : (deliverTod i s).cop = s.cop := rfl
@[simp] theorem deliverTod_blt (i : CycleInputs) (s : State) : (deliverTod i s).blt = s.blt := rfl
@[simp] theorem deliverTod_zorro (i : CycleInputs) (s : State) : (deliverTod i s).zorro = s.zorro := rfl
@[simp] theorem deliverTod_chipRam (i : CycleInputs) (s : State) : (deliverTod i s).chipRam = s.chipRam := rfl
@[simp] theorem deliverTod_fastRam (i : CycleInputs) (s : State) : (deliverTod i s).fastRam = s.fastRam := rfl
@[simp] theorem deliverTod_result (i : CycleInputs) (s : State) : (deliverTod i s).result = s.result := rfl
@[simp] theorem deliverTod_events (i : CycleInputs) (s : State) : (deliverTod i s).events = s.events := rfl
@[simp] theorem deliverTod_cfg (i : CycleInputs) (s : State) : (deliverTod i s).cfg = s.cfg := rfl
@[simp] theorem deliverTod_requests (i : CycleInputs) (s : State) : (deliverTod i s).requests = s.requests := rfl
@[simp] theorem deliverTod_epoch (i : CycleInputs) (s : State) : (deliverTod i s).epoch = s.epoch := rfl

/-! ### endCycle -/

@[simp] theorem endCycle_frame (i : CycleInputs) (s : State) : (endCycle i s).frame = s.frame := by unfold endCycle; simp
@[simp] theorem endCycle_line (i : CycleInputs) (s : State) : (endCycle i s).line = s.line := by unfold endCycle; simp
@[simp] theorem endCycle_cycle (i : CycleInputs) (s : State) : (endCycle i s).cycle = s.cycle := by unfold endCycle; simp
@[simp] theorem endCycle_cop (i : CycleInputs) (s : State) : (endCycle i s).cop = s.cop := by unfold endCycle; simp
@[simp] theorem endCycle_blt (i : CycleInputs) (s : State) : (endCycle i s).blt = s.blt := by unfold endCycle; simp
@[simp] theorem endCycle_zorro (i : CycleInputs) (s : State) : (endCycle i s).zorro = s.zorro := by unfold endCycle; simp
@[simp] theorem endCycle_chipRam (i : CycleInputs) (s : State) : (endCycle i s).chipRam = s.chipRam := by unfold endCycle; simp
@[simp] theorem endCycle_fastRam (i : CycleInputs) (s : State) : (endCycle i s).fastRam = s.fastRam := by unfold endCycle; simp
@[simp] theorem endCycle_result (i : CycleInputs) (s : State) : (endCycle i s).result = s.result := by unfold endCycle; simp
@[simp] theorem endCycle_events (i : CycleInputs) (s : State) : (endCycle i s).events = s.events := by unfold endCycle; simp
@[simp] theorem endCycle_cfg (i : CycleInputs) (s : State) : (endCycle i s).cfg = s.cfg := by unfold endCycle; simp
@[simp] theorem endCycle_requests (i : CycleInputs) (s : State) : (endCycle i s).requests = s.requests := by unfold endCycle; simp
@[simp] theorem endCycle_epoch (i : CycleInputs) (s : State) : (endCycle i s).epoch = s.epoch := by unfold endCycle; simp

/-! ### writeDestination -/

@[simp] theorem writeDestination_frame (s : State) (b : Blitter) : (writeDestination s b).frame = s.frame := by unfold writeDestination; split <;> rfl
@[simp] theorem writeDestination_line (s : State) (b : Blitter) : (writeDestination s b).line = s.line := by unfold writeDestination; split <;> rfl
@[simp] theorem writeDestination_cycle (s : State) (b : Blitter) : (writeDestination s b).cycle = s.cycle := by unfold writeDestination; split <;> rfl
@[simp] theorem writeDestination_agnus (s : State) (b : Blitter) : (writeDestination s b).agnus = s.agnus := by unfold writeDestination; split <;> rfl
@[simp] theorem writeDestination_cop (s : State) (b : Blitter) : (writeDestination s b).cop = s.cop := by unfold writeDestination; split <;> rfl
@[simp] theorem writeDestination_blt (s : State) (b : Blitter) : (writeDestination s b).blt = s.blt := by unfold writeDestination; split <;> rfl
@[simp] theorem writeDestination_ciaA (s : State) (b : Blitter) : (writeDestination s b).ciaA = s.ciaA := by unfold writeDestination; split <;> rfl
@[simp] theorem writeDestination_ciaB (s : State) (b : Blitter) : (writeDestination s b).ciaB = s.ciaB := by unfold writeDestination; split <;> rfl
@[simp] theorem writeDestination_zorro (s : State) (b : Blitter) : (writeDestination s b).zorro = s.zorro := by unfold writeDestination; split <;> rfl
@[simp] theorem writeDestination_fastRam (s : State) (b : Blitter) : (writeDestination s b).fastRam = s.fastRam := by unfold writeDestination; split <;> rfl
@[simp] theorem writeDestination_result (s : State) (b : Blitter) : (writeDestination s b).result = s.result := by unfold writeDestination; split <;> rfl
@[simp] theorem writeDestination_events (s : State) (b : Blitter) : (writeDestination s b).events = s.events := by unfold writeDestination; split <;> rfl
@[simp] theorem writeDestination_cfg (s : State) (b : Blitter) : (writeDestination s b).cfg = s.cfg := by unfold writeDestination; split <;> rfl
@[simp] theorem writeDestination_requests (s : State) (b : Blitter) : (writeDestination s b).requests = s.requests := by unfold writeDestination; split <;> rfl
@[simp] theorem writeDestination_epoch (s : State) (b : Blitter) : (writeDestination s b).epoch = s.epoch := by unfold writeDestination; split <;> rfl

/-! ### stepOneWord -/

@[simp] theorem stepOneWord_frame (s : State) : (stepOneWord s).frame = s.frame := by simp [stepOneWord]
@[simp] theorem stepOneWord_line (s : State) : (stepOneWord s).line = s.line := by simp [stepOneWord]
@[simp] theorem stepOneWord_cycle (s : State) : (stepOneWord s).cycle = s.cycle := by simp [stepOneWord]
@[simp] theorem stepOneWord_agnus (s : State) : (stepOneWord s).agnus = s.agnus := by simp [stepOneWord]
@[simp] theorem stepOneWord_cop (s : State) : (stepOneWord s).cop = s.cop := by simp [stepOneWord]
@[simp] theorem stepOneWord_ciaA (s : State) : (stepOneWord s).ciaA = s.ciaA := by simp [stepOneWord]
@[simp] theorem stepOneWord_ciaB (s : State) : (stepOneWord s).ciaB = s.ciaB := by simp [stepOneWord]
@[simp] theorem stepOneWord_zorro (s : State) : (stepOneWord s).zorro = s.zorro := by simp [stepOneWord]
@[simp] theorem stepOneWord_fastRam (s : State) : (stepOneWord s).fastRam = s.fastRam := by simp [stepOneWord]
@[simp] theorem stepOneWord_result (s : State) : (stepOneWord s).result = s.result := by simp [stepOneWord]
@[simp] theorem stepOneWord_events (s : State) : (stepOneWord s).events = s.events := by simp [stepOneWord]
@[simp] theorem stepOneWord_cfg (s : State) : (stepOneWord s).cfg = s.cfg := by simp [stepOneWord]
@[simp] theorem stepOneWord_requests (s : State) : (stepOneWord s).requests = s.requests := by simp [stepOneWord]
@[simp] theorem stepOneWord_epoch (s : State) : (stepOneWord s).epoch = s.epoch := by simp [stepOneWord]

/-! ### enterOperation -/

@[simp] theorem enterOperation_frame (s : State) : (enterOperation s).frame = s.frame := rfl
@[simp] theorem enterOperation_line (s : State) : (enterOperation s).line = s.line := rfl
@[simp] theorem enterOperation_cycle (s : State) : (enterOperation s).cycle = s.cycle := rfl
@[simp] theorem enterOperation_agnus (s : State) : (enterOperation s).agnus = s.agnus := rfl
@[simp] theorem enterOperation_cop (s : State) : (enterOperation s).cop = s.cop := rfl
@[simp] theorem enterOperation_blt (s : State) : (enterOperation s).blt = s.blt := rfl
@[simp] theorem enterOperation_ciaA (s : State) : (enterOperation s).ciaA = s.ciaA := rfl
@[simp] theorem enterOperation_ciaB (s : State) : (enterOperation s).ciaB = s.ciaB := rfl
@[simp] theorem enterOperation_zorro (s : State) : (enterOperation s).zorro = s.zorro := rfl
@[simp] theorem enterOperation_chipRam (s : State) : (enterOperation s).chipRam = s.chipRam := rfl
@[simp] theorem enterOperation_fastRam (s : State) : (enterOperation s).fastRam = s.fastRam := rfl
@[simp] theorem enterOperation_cfg (s : State) : (enterOperation s).cfg = s.cfg := rfl
@[simp] theorem enterOperation_epoch (s : State) : (enterOperation s).epoch = s.epoch := rfl

/-! ### What the operations put in the fields they write -/

@[simp] theorem setChipByte_chipRam (s : State) (a : Nat) (v : Byte) :
    (setChipByte s a v).chipRam = s.chipRam.insert a v := rfl
@[simp] theorem setFastByte_fastRam (s : State) (a : Nat) (v : Byte) :
    (setFastByte s a v).fastRam = s.fastRam.insert a v := rfl
@[simp] theorem emit_events (s : State) (e : Event) : (emit s e).events = s.events ++ [e] := rfl
@[simp] theorem setResult_result (s : State) (r : Result) : (setResult s r).result = r := rfl
@[simp] theorem raiseUnmapped_events (s : State) (a : BitVec 24) (k : AccessKind) :
    (raiseUnmapped s a k).events = s.events ++ [.unmapped a k] := rfl
@[simp] theorem raiseUnmapped_result (s : State) (a : BitVec 24) (k : AccessKind) :
    (raiseUnmapped s a k).result = .unmapped := rfl
@[simp] theorem startOperation_requests (s : State) (rest : List Encoded) : (startOperation s rest).requests = rest := rfl
@[simp] theorem startOperation_events (s : State) (rest : List Encoded) : (startOperation s rest).events = [] := rfl
@[simp] theorem startOperation_result (s : State) (rest : List Encoded) : (startOperation s rest).result = .done := rfl
@[simp] theorem getCia_setCia (s : State) (c : CiaId) (x : Cia) : getCia (setCia s c x) c = x := by cases c <;> rfl
theorem getCia_setCia_ne (s : State) {c d : CiaId} (x : Cia) (h : d ≠ c) : getCia (setCia s c x) d = getCia s d := by
  cases c <;> cases d <;> first | rfl | exact absurd rfl h
@[simp] theorem getCia_updateCia (s : State) (c : CiaId) (f : Cia → Cia) :
    getCia (updateCia s c f) c = f (getCia s c) := by cases c <;> rfl
theorem getCia_updateCia_ne (s : State) {c d : CiaId} (f : Cia → Cia) (h : d ≠ c) :
    getCia (updateCia s c f) d = getCia s d := getCia_setCia_ne s (f (getCia s c)) h
@[simp] theorem getCia_a (s : State) : getCia s .a = s.ciaA := rfl
@[simp] theorem getCia_b (s : State) : getCia s .b = s.ciaB := rfl
@[simp] theorem advanceRaster_cycle (s : State) : (advanceRaster s).cycle = nextCycle s := rfl
@[simp] theorem advanceRaster_line (s : State) : (advanceRaster s).line = nextLine s := rfl
@[simp] theorem beginCycle_cycle (i : CycleInputs) (s : State) : (beginCycle i s).cycle = nextCycle s := rfl
@[simp] theorem beginCycle_line (i : CycleInputs) (s : State) : (beginCycle i s).line = nextLine s := rfl
@[simp] theorem arbitrate_busOwner (i : CycleInputs) (s : State) :
    (arbitrate i s).agnus.busOwner = grantedOwner i s := rfl
@[simp] theorem arbitrate_dmacon (i : CycleInputs) (s : State) : (arbitrate i s).agnus.dmacon = s.agnus.dmacon := rfl
@[simp] theorem beginCycle_dmacon (i : CycleInputs) (s : State) : (beginCycle i s).agnus.dmacon = s.agnus.dmacon := rfl
@[simp] theorem stepOneWord_blt (s : State) :
    (stepOneWord s).blt = stepCounters (stepPointers (combineWord (readSources s))) := rfl

end Sys2Proof.Machine
end

