-- ==== Sys2Proof/Laws/Memory.lean ====
section
/-! SUPPORT. The laws of memory: reading after writing, and the canonical form every memory operation keeps (log 6). -/

namespace Sys2Proof.Machine

/-! ### Reading after writing -/

@[simp] theorem find_insert_self (m : Memory) (a : Nat) (v : Byte) : (m.insert a v).find a = some v := by
  induction m with
  | nil => simp [Memory.insert, Memory.find]
  | cons c rest ih =>
    obtain ⟨b, w⟩ := c
    simp only [Memory.insert]
    split
    · simp [Memory.find]
    · split
      · simp [Memory.find]
      · rename_i h; simp [Memory.find, h, ih]

theorem find_insert_ne (m : Memory) {a x : Nat} (v : Byte) (h : x ≠ a) : (m.insert a v).find x = m.find x := by
  induction m with
  | nil => simp [Memory.insert, Memory.find, h]
  | cons c rest ih =>
    obtain ⟨b, w⟩ := c
    simp only [Memory.insert]
    split
    · simp [Memory.find, h]
    · split
      · rename_i hab; subst hab; simp [Memory.find, h]
      · simp [Memory.find, ih]

@[simp] theorem chipByte_setChipByte_self (s : State) (a : Nat) (v : Byte) : chipByte (setChipByte s a v) a = v := by
  simp [chipByte]

theorem chipByte_setChipByte_ne (s : State) {a x : Nat} (v : Byte) (h : x ≠ a) :
    chipByte (setChipByte s a v) x = chipByte s x := by simp [chipByte, find_insert_ne _ v h]

@[simp] theorem fastByte_setFastByte_self (s : State) (a : Nat) (v : Byte) : fastByte (setFastByte s a v) a = v := by
  simp [fastByte]

theorem fastByte_setFastByte_ne (s : State) {a x : Nat} (v : Byte) (h : x ≠ a) :
    fastByte (setFastByte s a v) x = fastByte s x := by simp [fastByte, find_insert_ne _ v h]

/-- Everything a word write does to chip RAM: two bytes, and nothing else. -/
theorem chipByte_chipWrite16 (s : State) (p : Long) (v : Word) (x : Nat) :
    chipByte (chipWrite16 s p v) x =
      if x = chipAddr s.cfg p + 1 then wordLo v else if x = chipAddr s.cfg p then wordHi v else chipByte s x := by
  unfold chipWrite16
  split
  · rename_i h; subst h; simp
  · rename_i h
    rw [chipByte_setChipByte_ne _ _ h]
    split
    · rename_i h'; subst h'; simp
    · rename_i h'; rw [chipByte_setChipByte_ne _ _ h']

/-! ### The canonical form -/

/-- The first listed address, if any, is above `n`. -/
def Memory.above (m : Memory) (n : Nat) : Bool :=
  match m with
  | [] => true
  | (a, _) :: _ => decide (n < a)

theorem wf_cons (a : Nat) (v : Byte) (m : Memory) :
    Memory.wf ((a, v) :: m) = (Memory.above m a && Memory.wf m) := by
  cases m with
  | nil => rfl
  | cons c rest => rfl

theorem above_insert {m : Memory} {a n : Nat} {v : Byte} (h : m.above n = true) (hn : n < a) :
    (m.insert a v).above n = true := by
  cases m with
  | nil => simpa [Memory.insert, Memory.above] using hn
  | cons c rest =>
    obtain ⟨b, w⟩ := c
    simp only [Memory.above, decide_eq_true_eq] at h
    simp only [Memory.insert]
    split
    · simpa [Memory.above] using hn
    · split <;> simp [Memory.above, h, hn]

theorem insert_wf {m : Memory} {a : Nat} {v : Byte} (h : m.wf = true) : (m.insert a v).wf = true := by
  induction m with
  | nil => rfl
  | cons c rest ih =>
    obtain ⟨b, w⟩ := c
    simp only [wf_cons, Bool.and_eq_true] at h
    simp only [Memory.insert]
    split
    · rename_i hab
      rw [wf_cons, wf_cons, h.1, h.2]
      simpa [Memory.above] using hab
    · split
      · rename_i hab; subst hab; simp [wf_cons, h]
      · rename_i h1 h2
        simp [wf_cons, ih h.2, above_insert (v := v) h.1 (show b < a by omega)]

theorem insert_below {m : Memory} {a n : Nat} {v : Byte} (h : m.below n = true) (ha : a < n) :
    (m.insert a v).below n = true := by
  induction m with
  | nil => simpa [Memory.insert, Memory.below] using ha
  | cons c rest ih =>
    obtain ⟨b, w⟩ := c
    simp only [Memory.below, List.all_cons, Bool.and_eq_true, decide_eq_true_eq] at h ih ⊢
    simp only [Memory.insert]
    split
    · simp [h, ha]
    · split
      · simp [h, ha]
      · simp [h, ih h.2]

theorem ofBytes_above (a : Nat) (bs : List Byte) : (Memory.ofBytes (a + 1) bs).above a = true := by
  cases bs <;> simp [Memory.ofBytes, Memory.above]

theorem ofBytes_wf (a : Nat) (bs : List Byte) : (Memory.ofBytes a bs).wf = true := by
  induction bs generalizing a with
  | nil => rfl
  | cons b rest ih => simp [Memory.ofBytes, wf_cons, ofBytes_above, ih]

theorem ofBytes_below (a : Nat) (bs : List Byte) : (Memory.ofBytes a bs).below (a + bs.length) = true := by
  induction bs generalizing a with
  | nil => rfl
  | cons b rest ih =>
    have key : (Memory.ofBytes (a + 1) rest).below (a + (rest.length + 1)) = true := by
      rw [show a + (rest.length + 1) = a + 1 + rest.length by omega]
      exact ih (a + 1)
    simp only [Memory.below] at key
    simp only [Memory.ofBytes, Memory.below, List.all_cons, Bool.and_eq_true, decide_eq_true_eq, List.length_cons]
    exact ⟨by omega, key⟩

theorem find_ofBytes (a : Nat) (bs : List Byte) (i : Nat) : (Memory.ofBytes a bs).find (a + i) = bs[i]? := by
  induction bs generalizing a i with
  | nil => rfl
  | cons b rest ih =>
    cases i with
    | zero => simp [Memory.ofBytes, Memory.find]
    | succ k =>
      have := ih (a + 1) k
      rw [show a + (k + 1) = a + 1 + k by omega]
      simp [Memory.ofBytes, Memory.find, this, show a + 1 + k ≠ a by omega]

/-- Memory after reset lists nothing, and is in canonical form. -/
theorem reset_memory_wf : State.reset.chipRam.wf = true ∧ State.reset.fastRam.wf = true := ⟨rfl, rfl⟩

/-! ### Chip addresses -/

theorem chipAddr_even (cfg : Config) (p : Long) : chipAddr cfg p % 2 = 0 := by unfold chipAddr; omega

theorem chipAddr_lt (cfg : Config) (p : Long) (h : 1 ≤ cfg.chipRamLog2) : chipAddr cfg p + 1 < cfg.chipRamSize := by
  obtain ⟨k, hk⟩ : ∃ k, cfg.chipRamSize = 2 * k := by
    refine ⟨2 ^ (cfg.chipRamLog2 - 1), ?_⟩
    unfold Config.chipRamSize
    rw [← pow_succ']
    congr 1
    omega
  have hpos : 0 < cfg.chipRamSize := by unfold Config.chipRamSize; positivity
  have := Nat.mod_lt p.toNat hpos
  unfold chipAddr
  omega

end Sys2Proof.Machine
end

