-- ==== Sys2Proof/Laws/Codec.lean ====
section
/-! SUPPORT. The snapshot's field codecs: each reader gives back what the matching writer put, and the bytes after it. -/

namespace Sys2Proof.Machine

theorem getBytes_append {k : Nat} {bs rest : List Byte} (h : bs.length = k) : getBytes k (bs ++ rest) = some (bs, rest) := by
  subst h; simp [getBytes]

theorem getNat_bigEndian {k n : Nat} (rest : List Byte) (h : n < 256 ^ k) :
    getNat k (bigEndian k n ++ rest) = some (n, rest) := by
  simp [getNat, getBytes_append (length_bigEndian k n), ofBigEndian_bigEndian, Nat.mod_eq_of_lt h]

theorem getBits_putBits {w k : Nat} (v : BitVec w) (rest : List Byte) (h : w ≤ 8 * k) :
    getBits w k (putBits k v ++ rest) = some (v, rest) := by
  have hv : v.toNat < 256 ^ k := by
    have h2 : 2 ^ w ≤ 256 ^ k := by
      rw [show (256 : Nat) = 2 ^ 8 from rfl, ← pow_mul]; exact Nat.pow_le_pow_right (by omega) h
    exact lt_of_lt_of_le v.isLt h2
  simp [getBits, putBits, getNat_bigEndian rest hv, v.isLt]

theorem getBool_putBool (b : Bool) (rest : List Byte) : getBool (putBool b ++ rest) = some (b, rest) := by
  cases b <;> rfl

theorem listIdOfCode_listIdCode (n : ListId) : listIdOfCode (listIdCode n) = some n := by cases n <;> rfl

theorem ownerOfCode_ownerCode (o : Option Owner) : ownerOfCode (ownerCode o) = some o := by
  cases o with
  | none => rfl
  | some x => cases x <;> rfl

theorem ownerCode_le (o : Option Owner) : ownerCode o ≤ 22 := by
  cases o with
  | none => decide
  | some x => cases x <;> decide

/-- A divider's phase fits the bytes the snapshot gives it. -/
theorem phase_lt {cfg : Config} {n : Nat} (h : n < cfg.ciaDivider) : n < 256 ^ phaseBytes cfg := by
  have h1 : n < 2 ^ (Nat.log2 (cfg.ciaDivider - 1) + 1) := lt_of_le_of_lt (show n ≤ cfg.ciaDivider - 1 by omega) Nat.lt_log2_self
  refine lt_of_lt_of_le h1 ?_
  rw [show (256 : Nat) = 2 ^ 8 from rfl, ← pow_mul]
  exact Nat.pow_le_pow_right (by omega) (by unfold phaseBytes; omega)

/-- A TOD number fits the bytes the snapshot gives it. -/
theorem tod_lt {cfg : Config} {n : Nat} (h : n < 2 ^ cfg.todBits) : n < 256 ^ todBytes cfg := by
  refine lt_of_lt_of_le h ?_
  rw [show (256 : Nat) = 2 ^ 8 from rfl, ← pow_mul]
  exact Nat.pow_le_pow_right (by omega) (by unfold todBytes; omega)

theorem getTod_putTod {cfg : Config} {t : Tod} (rest : List Byte) (h : todLegal cfg.todBits t = true) :
    getTod cfg (putTod cfg t ++ rest) = some (t, rest) := by
  simp only [todLegal, Bool.and_eq_true, decide_eq_true_eq] at h
  simp [getTod, putTod, List.append_assoc, getNat_bigEndian _ (tod_lt h.1.1), getNat_bigEndian _ (tod_lt h.1.2),
    getNat_bigEndian _ (tod_lt h.2)]

theorem seqMarker_pos : 0 < seqMarker := by decide

theorem getSeq_putMarkers (m n fuel : Nat) (rest : List Byte) (hn : n < seqMarker) (hf : m ≤ fuel) :
    getSeq fuel (putMarkers m (bigEndian 8 n) ++ rest) = some (m * seqMarker + n, rest) := by
  have hM : seqMarker < 256 ^ 8 := by decide
  induction m generalizing fuel with
  | zero =>
    have h := getNat_bigEndian (k := 8) rest (show n < 256 ^ 8 by omega)
    cases fuel <;> (rw [putMarkers, getSeq, h]; simp [Nat.ne_of_lt hn])
  | succ m ih =>
    cases fuel with
    | zero => omega
    | succ f =>
      have h := getNat_bigEndian (k := 8) (putMarkers m (bigEndian 8 n) ++ rest) hM
      rw [putMarkers, List.append_assoc, getSeq, h]
      simp only [if_true, ih f (by omega)]
      simp only [Option.map_some, Option.some.injEq, Prod.mk.injEq, and_true]
      ring

theorem length_putMarkers (m : Nat) (bs : List Byte) : (putMarkers m bs).length = 8 * m + bs.length := by
  induction m with
  | zero => simp [putMarkers]
  | succ m ih => simp [putMarkers, ih]; omega

theorem getSeq_putSeq (n fuel : Nat) (rest : List Byte) (hf : n / seqMarker ≤ fuel) :
    getSeq fuel (putSeq n ++ rest) = some (n, rest) := by
  rw [putSeq, getSeq_putMarkers _ _ _ _ (Nat.mod_lt _ seqMarker_pos) hf, mul_comm, Nat.div_add_mod]

end Sys2Proof.Machine
end

