-- ==== Sys2Proof/Laws/Ops.lean ====
section
/-! SUPPORT. One lemma for each shared operation that says once what it can answer. -/

namespace Sys2Proof.Machine

open Host (Outcome)

/-- What follows an operation answers only from a state the operation answered. -/
theorem andThen_next {o : Out} {f : State → Out} {t : State} :
    andThen o f = .next t ↔ ∃ u, o = .next u ∧ f u = .next t := by
  cases o <;> simp [andThen]

@[simp] theorem andThen_of_next (s : State) (f : State → Out) : andThen (.next s) f = f s := rfl

theorem writeBlitter_next {s t : State} {f : Blitter → Blitter} :
    writeBlitter s f = .next t ↔ s.blt.busyFlag = false ∧ t = { s with blt := f s.blt } := by
  unfold writeBlitter
  cases s.blt.busyFlag <;> simp [eq_comm]

theorem writeBlitter_idle {s : State} {f : Blitter → Blitter} (h : s.blt.busyFlag = false) :
    writeBlitter s f = .next { s with blt := f s.blt } := by simp [writeBlitter, h]

theorem execBltsize_next {src : Master} {v : Word} {s t : State} :
    execBltsize src v s = .next t ↔
      s.blt.busyFlag = false ∧ lineOrDesc s.blt = false ∧ t = { s with blt := startCounters s.blt v } := by
  unfold execBltsize
  cases s.blt.busyFlag <;> cases lineOrDesc s.blt <;> simp [eq_comm]

@[simp] theorem writeCia_eq (s : State) (c : CiaId) (f : Cia → Cia) : writeCia s c f = .next (updateCia s c f) := rfl

@[simp] theorem readByte_eq (s : State) (c : CiaId) (f : Cia → Byte) :
    readByte s c f = .next (setResult s (.byte (f (getCia s c)))) := rfl

/-- A register write changes only the DMA control, the interlace enable, the Copper, the Blitter and the events. -/
theorem regWrite_next {src : Master} {a : RegAddr} {v : Word} {s t : State} (h : regWrite src a v s = .next t) :
    t = { s with
      agnus := { s.agnus with dmacon := t.agnus.dmacon, interlaceEnabled := t.agnus.interlaceEnabled }
      cop := t.cop
      blt := t.blt
      events := t.events } := by
  unfold regWrite at h
  split at h <;>
    first
    | (obtain ⟨-, rfl⟩ := writeBlitter_next.1 h; rfl)
    | (obtain ⟨-, -, rfl⟩ := execBltsize_next.1 h; rfl)
    | (cases h <;> rfl)

/-- A TOD write leaves a number of the counter's width. -/
theorem setTodByte_lt (bits k t : Nat) (v : Byte) : setTodByte bits k t v < 2 ^ bits :=
  Nat.mod_lt _ (by positivity)

/-- A CIA read changes that CIA and the result. -/
theorem ciaRead_next {c : CiaId} {n : Nat} {s t : State} (h : ciaRead c n s = .next t) :
    t = setResult (setCia s c (getCia t c)) t.result := by
  unfold ciaRead at h
  split at h <;> cases h <;> cases c <;> rfl

/-- A CIA write changes that CIA alone. -/
theorem ciaWrite_next {c : CiaId} {n : Nat} {v : Byte} {s t : State} (h : ciaWrite c n v s = .next t) :
    t = setCia s c (getCia t c) := by
  unfold ciaWrite at h
  split at h <;> first
    | (cases h; cases c <;> rfl)
    | (simp only [execSdrW, execCraW, execCrbW] at h; split at h <;> cases h; cases c <;> rfl)

/-- The Copper's decoder gives one of its three instructions (30_encoding.md R105). -/
theorem copperExecute_cases (s : State) :
    (∃ ra dw, decodeCopper s.cop.ir1 s.cop.lastInstructionWord = .move ra dw ∧ copperExecute s = execMove ra dw s)
      ∨ (∃ t, decodeCopper s.cop.ir1 s.cop.lastInstructionWord = .wait t ∧ copperExecute s = execWait t s)
      ∨ (∃ t, decodeCopper s.cop.ir1 s.cop.lastInstructionWord = .skip t ∧ copperExecute s = execSkip t s) := by
  unfold copperExecute decodeCopper
  split
  · exact .inl ⟨_, _, rfl, rfl⟩
  · split
    · exact .inr (.inl ⟨_, rfl, rfl⟩)
    · exact .inr (.inr ⟨_, rfl, rfl⟩)

/-- A Copper instruction changes what a register write changes. -/
theorem copperTick_next {s t : State} (h : copperTick s = .next t) :
    t = { s with
      agnus := { s.agnus with dmacon := t.agnus.dmacon, interlaceEnabled := t.agnus.interlaceEnabled }
      cop := t.cop
      blt := t.blt
      events := t.events } := by
  unfold copperTick at h
  obtain ⟨ra, dw, -, e⟩ | ⟨x, -, e⟩ | ⟨x, -, e⟩ := copperExecute_cases (copperFetch s) <;> rw [e] at h
  · unfold execMove at h
    split at h
    · exact (regWrite_next h).trans rfl
    · cases h; rfl
  · unfold execWait at h; split at h <;> cases h <;> rfl
  · unfold execSkip at h; split at h <;> cases h <;> rfl

/-- The callback of a grant is the Copper's tick, one Blitter word, or nothing (40_agnus.md R146). -/
theorem ownerCallback_next {s t : State} (h : ownerCallback s = .next t) :
    (s.agnus.busOwner = some .copper ∧ copperTick s = .next t)
      ∨ (s.agnus.busOwner = some .blitter ∧ t = stepOneWord s)
      ∨ (s.agnus.busOwner ≠ some .copper ∧ s.agnus.busOwner ≠ some .blitter ∧ t = s) := by
  unfold ownerCallback at h
  split at h
  · rename_i e; exact .inl ⟨e, h⟩
  · rename_i e; cases h; exact .inr (.inl ⟨e, rfl⟩)
  · rename_i h1 h2; cases h; exact .inr (.inr ⟨h1, h2, rfl⟩)

/-- A cycle that completes is its beginning, the callback and its end. -/
theorem advanceOneCycle_next {i : CycleInputs} {s t : State} :
    advanceOneCycle i s = .next t ↔
      ∃ u, ownerCallback (arbitrate i (beginCycle i s)) = .next u ∧ t = endCycle i u := by
  unfold advanceOneCycle
  rw [andThen_next]
  constructor
  · rintro ⟨u, hu, h⟩; cases h; exact ⟨u, hu, rfl⟩
  · rintro ⟨u, hu, rfl⟩; exact ⟨u, hu, rfl⟩

/-- A granted owner claims, and stands in the candidate list. -/
theorem grantedOwner_some {i : CycleInputs} {s : State} {o : Owner} (h : grantedOwner i s = some o) :
    claims i s o = true ∧ o ∈ candidates (nasty s) (slotTable s.cfg s.line.toNat s.cycle.toNat) :=
  ⟨List.find?_some h, List.mem_of_find?_eq_some h⟩

/-- A configuring write of the autoconfig window changes the mapper, or Fast RAM, or only raises the unmapped event. -/
theorem autoconfigWrite_next (off : BitVec 16) (v : Byte) (s : State) : ∃ t, autoconfigWrite off v s = .next t := by
  unfold autoconfigWrite
  split
  · unfold execAutoconfBaseHi; split <;> exact ⟨_, rfl⟩
  · unfold execAutoconfBaseLo; split <;> exact ⟨_, rfl⟩
  · unfold execAutoconfShutup; split <;> exact ⟨_, rfl⟩
  · exact ⟨_, rfl⟩

/-- Every CIA read completes. -/
theorem ciaRead_total (c : CiaId) (n : Nat) (s : State) : ∃ t, ciaRead c n s = .next t := by
  unfold ciaRead
  split <;> exact ⟨_, rfl⟩

/-- The step of a pending request. -/
theorem fetch_cons {s : State} {e : Encoded} {rest : List Encoded} (h : s.requests = e :: rest) :
    fetch s = some (acceptRequest e) := by simp [fetch, h]

theorem fetch_nil {s : State} (h : s.requests = []) : fetch s = none := by simp [fetch, h]

/-- A cycle completes with an idle Copper, and leaves it idle: an idle Copper never claims (41_copper.md R172). -/
theorem advanceOneCycle_idle (i : CycleInputs) {s : State} (h : s.cop.active = false) :
    ∃ t, advanceOneCycle i s = .next t ∧ t.cop.active = false := by
  have hc : copperClaims (beginCycle i s) = false := by simp [copperClaims, beginCycle, advanceRaster, h]
  have hn : (arbitrate i (beginCycle i s)).agnus.busOwner ≠ some .copper := by
    intro e
    have := (grantedOwner_some (i := i) (s := beginCycle i s) (o := .copper) e).1
    simp [claims, hc] at this
  have he : ∀ u : State, u.cop.active = false → (endCycle i u).cop.active = false := by
    intro u hu; unfold endCycle deliverTod divideCia; split <;> exact hu
  unfold advanceOneCycle ownerCallback
  split
  · rename_i e; exact absurd e hn
  · refine ⟨_, rfl, he _ ?_⟩
    simp only [stepOneWord, writeDestination]
    split <;> exact h
  · exact ⟨_, rfl, he _ h⟩

end Sys2Proof.Machine
end

