-- ==== Sys2Proof/Laws/PerInstr.lean ====
section
/-! SUPPORT. The family TableMatch: the encoder's bytes carry, for every instruction, exactly the bits its row of
spec/opcode_table.json fixes (30_encoding.md R128). -/

namespace Sys2Proof.Laws

/-- A row of spec/opcode_table.json: its format, the bits it matches, the bits it looks at. -/
structure TableRow where
  format : Format
  bits   : Nat
  mask   : Nat
  deriving DecidableEq, Repr

/-- The row of each instruction, copied from spec/opcode_table.json. -/
def tableRow (i : Instr) : TableRow :=
  match i with
  | .move _ _ => ⟨.copper, 0x0, 0x10000⟩
  | .wait _ => ⟨.copper, 0x10000, 0x10001⟩
  | .skip _ => ⟨.copper, 0x10001, 0x10001⟩
  | .reset _ => ⟨.host, 0x0, 0xf⟩
  | .advance _ => ⟨.host, 0x1, 0xf⟩
  | .peek _ => ⟨.host, 0x2, 0xf⟩
  | .poke _ _ => ⟨.host, 0x3, 0xf⟩
  | .snapsize => ⟨.host, 0x4, 0xf⟩
  | .snapsave _ => ⟨.host, 0x5, 0xf⟩
  | .snapload _ => ⟨.host, 0x6, 0xf⟩
  | .regwrite _ _ => ⟨.host, 0x7, 0xf⟩
  | .regread _ => ⟨.host, 0x8, 0xf⟩
  | .dmaconr => ⟨.regr, 0x2, 0x1fe⟩
  | .vposr => ⟨.regr, 0x4, 0x1fe⟩
  | .vhposr => ⟨.regr, 0x6, 0x1fe⟩
  | .vposw _ _ => ⟨.regw, 0x2a, 0x1fe⟩
  | .vhposw _ _ => ⟨.regw, 0x2c, 0x1fe⟩
  | .copcon _ _ => ⟨.regw, 0x2e, 0x1fe⟩
  | .bltcon0 _ _ => ⟨.regw, 0x40, 0x1fe⟩
  | .bltcon1 _ _ => ⟨.regw, 0x42, 0x1fe⟩
  | .bltafwm _ _ => ⟨.regw, 0x44, 0x1fe⟩
  | .bltalwm _ _ => ⟨.regw, 0x46, 0x1fe⟩
  | .bltcpth _ _ => ⟨.regw, 0x48, 0x1fe⟩
  | .bltcptl _ _ => ⟨.regw, 0x4a, 0x1fe⟩
  | .bltbpth _ _ => ⟨.regw, 0x4c, 0x1fe⟩
  | .bltbptl _ _ => ⟨.regw, 0x4e, 0x1fe⟩
  | .bltapth _ _ => ⟨.regw, 0x50, 0x1fe⟩
  | .bltaptl _ _ => ⟨.regw, 0x52, 0x1fe⟩
  | .bltdpth _ _ => ⟨.regw, 0x54, 0x1fe⟩
  | .bltdptl _ _ => ⟨.regw, 0x56, 0x1fe⟩
  | .bltsize _ _ => ⟨.regw, 0x58, 0x1fe⟩
  | .bltcmod _ _ => ⟨.regw, 0x60, 0x1fe⟩
  | .bltbmod _ _ => ⟨.regw, 0x62, 0x1fe⟩
  | .bltamod _ _ => ⟨.regw, 0x64, 0x1fe⟩
  | .bltdmod _ _ => ⟨.regw, 0x66, 0x1fe⟩
  | .bltcdat _ _ => ⟨.regw, 0x70, 0x1fe⟩
  | .bltbdat _ _ => ⟨.regw, 0x72, 0x1fe⟩
  | .bltadat _ _ => ⟨.regw, 0x74, 0x1fe⟩
  | .cop1lch _ _ => ⟨.regw, 0x80, 0x1fe⟩
  | .cop1lcl _ _ => ⟨.regw, 0x82, 0x1fe⟩
  | .cop2lch _ _ => ⟨.regw, 0x84, 0x1fe⟩
  | .cop2lcl _ _ => ⟨.regw, 0x86, 0x1fe⟩
  | .copjmp1 _ _ => ⟨.regw, 0x88, 0x1fe⟩
  | .copjmp2 _ _ => ⟨.regw, 0x8a, 0x1fe⟩
  | .dmacon _ _ => ⟨.regw, 0x96, 0x1fe⟩
  | .bplcon0 _ _ => ⟨.regw, 0x100, 0x1fe⟩
  | .praR _ => ⟨.ciar, 0x0, 0xf⟩
  | .prbR _ => ⟨.ciar, 0x1, 0xf⟩
  | .ddraR _ => ⟨.ciar, 0x2, 0xf⟩
  | .ddrbR _ => ⟨.ciar, 0x3, 0xf⟩
  | .taloR _ => ⟨.ciar, 0x4, 0xf⟩
  | .tahiR _ => ⟨.ciar, 0x5, 0xf⟩
  | .tbloR _ => ⟨.ciar, 0x6, 0xf⟩
  | .tbhiR _ => ⟨.ciar, 0x7, 0xf⟩
  | .todloR _ => ⟨.ciar, 0x8, 0xf⟩
  | .todmidR _ => ⟨.ciar, 0x9, 0xf⟩
  | .todhiR _ => ⟨.ciar, 0xa, 0xf⟩
  | .regbR _ => ⟨.ciar, 0xb, 0xf⟩
  | .sdrR _ => ⟨.ciar, 0xc, 0xf⟩
  | .icrR _ => ⟨.ciar, 0xd, 0xf⟩
  | .craR _ => ⟨.ciar, 0xe, 0xf⟩
  | .crbR _ => ⟨.ciar, 0xf, 0xf⟩
  | .praW _ _ => ⟨.ciaw, 0x0, 0xf⟩
  | .prbW _ _ => ⟨.ciaw, 0x1, 0xf⟩
  | .ddraW _ _ => ⟨.ciaw, 0x2, 0xf⟩
  | .ddrbW _ _ => ⟨.ciaw, 0x3, 0xf⟩
  | .taloW _ _ => ⟨.ciaw, 0x4, 0xf⟩
  | .tahiW _ _ => ⟨.ciaw, 0x5, 0xf⟩
  | .tbloW _ _ => ⟨.ciaw, 0x6, 0xf⟩
  | .tbhiW _ _ => ⟨.ciaw, 0x7, 0xf⟩
  | .todloW _ _ => ⟨.ciaw, 0x8, 0xf⟩
  | .todmidW _ _ => ⟨.ciaw, 0x9, 0xf⟩
  | .todhiW _ _ => ⟨.ciaw, 0xa, 0xf⟩
  | .regbW _ _ => ⟨.ciaw, 0xb, 0xf⟩
  | .sdrW _ _ => ⟨.ciaw, 0xc, 0xf⟩
  | .imrW _ _ => ⟨.ciaw, 0xd, 0xf⟩
  | .craW _ _ => ⟨.ciaw, 0xe, 0xf⟩
  | .crbW _ _ => ⟨.ciaw, 0xf, 0xf⟩
  | .autoconfRead _ => ⟨.zorror, 0x0, 0x0⟩
  | .autoconfBaseHi _ => ⟨.zorrow, 0x48, 0xffff⟩
  | .autoconfBaseLo _ => ⟨.zorrow, 0x4a, 0xffff⟩
  | .autoconfShutup _ => ⟨.zorrow, 0x4c, 0xffff⟩

/-- How many bytes of a request hold the bits the table numbers: a Copper instruction's four, a host code's or CIA
number's one, a register address's or autoconfig offset's two. -/
def tableBytes (f : Format) : Nat :=
  match f with
  | .copper => 4
  | .host | .ciar | .ciaw => 1
  | .regr | .regw | .zorror | .zorrow => 2

/-- The bits of a request that the table numbers. -/
def tableBits (e : Encoded) : Nat := ofBigEndian (e.bytes.take (tableBytes e.format))

/-- The encoding has the row's format, and the bits the row fixes. -/
def TableMatch.Statement (i : Instr) : Prop :=
  (encode i).format = (tableRow i).format ∧ tableBits (encode i) &&& (tableRow i).mask = (tableRow i).bits

/-- The number four bytes of a Copper instruction stand for, bit by bit. -/
theorem testBit_copperBytes (ir1 ir2 : Word) (k : Nat) :
    (ofBigEndian (copperBytes ir1 ir2)).testBit k = (ir1 ++ ir2 : BitVec 32).getLsbD k := by
  have h : ofBigEndian (copperBytes ir1 ir2) = (ir1 ++ ir2 : BitVec 32).toNat := by
    have h1 := toNat_wordOf (wordHi ir1) (wordLo ir1)
    have h2 := toNat_wordOf (wordHi ir2) (wordLo ir2)
    rw [wordOf_wordHi_wordLo] at h1 h2
    rw [BitVec.toNat_append, ← Nat.shiftLeft_add_eq_or_of_lt ir2.isLt, Nat.shiftLeft_eq, h1, h2]
    simp only [copperBytes, ofBigEndian, List.foldl_cons, List.foldl_nil]
    omega
  rw [h, BitVec.testBit_toNat]

/-- Bits 16 and 0 of a Copper instruction decide which of the three it is (30_encoding.md R105). -/
theorem copperBytes_and (ir1 ir2 : Word) (a b : Bool) (h1 : ir1.getLsbD 0 = a) (h0 : ir2.getLsbD 0 = b) :
    ofBigEndian (copperBytes ir1 ir2) &&& 0x10001 = (if a then 0x10000 else 0) + (if b then 1 else 0) := by
  apply Nat.eq_of_testBit_eq
  intro k
  rw [Nat.testBit_and, testBit_copperBytes, BitVec.getLsbD_append]
  have hm : (0x10001 : Nat).testBit k = (decide (k = 0) || decide (k = 16)) := by
    by_cases hk : k < 32
    · interval_cases k <;> rfl
    · rw [Nat.testBit_lt_two_pow (lt_of_lt_of_le (by decide) (Nat.pow_le_pow_right (by omega) (Nat.le_of_not_lt hk)))]
      simp; omega
  have hr : ((if a then 0x10000 else 0) + (if b then 1 else 0) : Nat).testBit k
      = ((a && decide (k = 16)) || (b && decide (k = 0))) := by
    by_cases hk : k < 32
    · interval_cases k <;> cases a <;> cases b <;> rfl
    · have hlt : ((if a then 0x10000 else 0) + (if b then 1 else 0) : Nat) < 2 ^ 32 := by
        cases a <;> cases b <;> decide
      rw [Nat.testBit_lt_two_pow (lt_of_lt_of_le hlt (Nat.pow_le_pow_right (by omega) (Nat.le_of_not_lt hk)))]
      have h16 : k ≠ 16 := by omega
      have h00 : k ≠ 0 := by omega
      simp [h16, h00]
  rw [hm, hr]
  by_cases hk0 : k = 0
  · subst hk0; simpa using h0
  · by_cases hk16 : k = 16
    · subst hk16; simpa using h1
    · simp [hk0, hk16]

theorem and_10000 (n : Nat) : n &&& 0x10000 = (n &&& 0x10001) &&& 0x10000 := by
  rw [Nat.and_assoc]; rfl

theorem getLsbD_moveIr1 (ra : BitVec 8) : (moveIr1 ra).getLsbD 0 = false := by
  simp only [moveIr1, BitVec.getLsbD_append]; rfl

theorem getLsbD_targetIr1 (t : BeamTarget) : (targetIr1 t).getLsbD 0 = true := by
  simp only [targetIr1, BitVec.getLsbD_append]; rfl

theorem getLsbD_targetIr2 (t : BeamTarget) (k : BitVec 1) : (targetIr2 t k).getLsbD 0 = k.getLsbD 0 := by
  simp only [targetIr2, BitVec.getLsbD_append]; rfl

theorem tableBits_host (code : Byte) (ops : List Byte) : tableBits (hostWords code ops) = ofBigEndian [code] := rfl
theorem tableBits_regw (a : RegAddr) (src : Master) (v : Word) :
    tableBits (regwWords a src v) = ofBigEndian (regAddrBytes a) := rfl
theorem tableBits_ciar (n : Byte) (c : CiaId) : tableBits (ciarWords n c) = ofBigEndian [n] := rfl
theorem tableBits_ciaw (n : Byte) (c : CiaId) (v : Byte) : tableBits (ciawWords n c v) = ofBigEndian [n] := rfl
theorem tableBits_zorrow (off : Word) (v : Byte) :
    tableBits (zorrowWords off v) = ofBigEndian [wordHi off, wordLo off] := rfl

theorem TableMatch.move (ra : BitVec 8) (dw : Word) : TableMatch.Statement (.move ra dw) := by
  refine ⟨rfl, ?_⟩
  show ofBigEndian (copperBytes (moveIr1 ra) dw) &&& 0x10000 = 0
  rw [and_10000, copperBytes_and _ _ false _ (getLsbD_moveIr1 ra) rfl]
  cases dw.getLsbD 0 <;> rfl
theorem TableMatch.wait (t : BeamTarget) : TableMatch.Statement (.wait t) := by
  refine ⟨rfl, ?_⟩
  exact (copperBytes_and _ _ true false (getLsbD_targetIr1 t) (getLsbD_targetIr2 t 0)).trans rfl
theorem TableMatch.skip (t : BeamTarget) : TableMatch.Statement (.skip t) := by
  refine ⟨rfl, ?_⟩
  exact (copperBytes_and _ _ true true (getLsbD_targetIr1 t) (getLsbD_targetIr2 t 1)).trans rfl
theorem TableMatch.reset (hard : Bool) : TableMatch.Statement (.reset hard) :=
  ⟨rfl, (congrArg (· &&& 0xf) (tableBits_host 0 _)).trans (by change _ = 0x0; decide)⟩
theorem TableMatch.advance (inputs : CycleInputs) : TableMatch.Statement (.advance inputs) :=
  ⟨rfl, (congrArg (· &&& 0xf) (tableBits_host 1 _)).trans (by change _ = 0x1; decide)⟩
theorem TableMatch.peek (addr : Nat) : TableMatch.Statement (.peek addr) :=
  ⟨rfl, (congrArg (· &&& 0xf) (tableBits_host 2 _)).trans (by change _ = 0x2; decide)⟩
theorem TableMatch.poke (addr : Nat) (v : Byte) : TableMatch.Statement (.poke addr v) :=
  ⟨rfl, (congrArg (· &&& 0xf) (tableBits_host 3 _)).trans (by change _ = 0x3; decide)⟩
theorem TableMatch.snapsize : TableMatch.Statement (.snapsize) :=
  ⟨rfl, (congrArg (· &&& 0xf) (tableBits_host 4 _)).trans (by change _ = 0x4; decide)⟩
theorem TableMatch.snapsave (cap : Nat) : TableMatch.Statement (.snapsave cap) :=
  ⟨rfl, (congrArg (· &&& 0xf) (tableBits_host 5 _)).trans (by change _ = 0x5; decide)⟩
theorem TableMatch.snapload (buffer : List Byte) : TableMatch.Statement (.snapload buffer) :=
  ⟨rfl, (congrArg (· &&& 0xf) (tableBits_host 6 _)).trans (by change _ = 0x6; decide)⟩
theorem TableMatch.regwrite (a : RegAddr) (v : Word) : TableMatch.Statement (.regwrite a v) :=
  ⟨rfl, (congrArg (· &&& 0xf) (tableBits_host 7 _)).trans (by change _ = 0x7; decide)⟩
theorem TableMatch.regread (a : RegAddr) : TableMatch.Statement (.regread a) :=
  ⟨rfl, (congrArg (· &&& 0xf) (tableBits_host 8 _)).trans (by change _ = 0x8; decide)⟩
theorem TableMatch.dmaconr : TableMatch.Statement (.dmaconr) := ⟨rfl, rfl⟩
theorem TableMatch.vposr : TableMatch.Statement (.vposr) := ⟨rfl, rfl⟩
theorem TableMatch.vhposr : TableMatch.Statement (.vhposr) := ⟨rfl, rfl⟩
theorem TableMatch.vposw (src : Master) (v : Word) : TableMatch.Statement (.vposw src v) :=
  ⟨rfl, (congrArg (· &&& 0x1fe) (tableBits_regw 0x02A src v)).trans (by change _ = 0x2a; decide)⟩
theorem TableMatch.vhposw (src : Master) (v : Word) : TableMatch.Statement (.vhposw src v) :=
  ⟨rfl, (congrArg (· &&& 0x1fe) (tableBits_regw 0x02C src v)).trans (by change _ = 0x2c; decide)⟩
theorem TableMatch.copcon (src : Master) (v : Word) : TableMatch.Statement (.copcon src v) :=
  ⟨rfl, (congrArg (· &&& 0x1fe) (tableBits_regw 0x02E src v)).trans (by change _ = 0x2e; decide)⟩
theorem TableMatch.bltcon0 (src : Master) (v : Word) : TableMatch.Statement (.bltcon0 src v) :=
  ⟨rfl, (congrArg (· &&& 0x1fe) (tableBits_regw 0x040 src v)).trans (by change _ = 0x40; decide)⟩
theorem TableMatch.bltcon1 (src : Master) (v : Word) : TableMatch.Statement (.bltcon1 src v) :=
  ⟨rfl, (congrArg (· &&& 0x1fe) (tableBits_regw 0x042 src v)).trans (by change _ = 0x42; decide)⟩
theorem TableMatch.bltafwm (src : Master) (v : Word) : TableMatch.Statement (.bltafwm src v) :=
  ⟨rfl, (congrArg (· &&& 0x1fe) (tableBits_regw 0x044 src v)).trans (by change _ = 0x44; decide)⟩
theorem TableMatch.bltalwm (src : Master) (v : Word) : TableMatch.Statement (.bltalwm src v) :=
  ⟨rfl, (congrArg (· &&& 0x1fe) (tableBits_regw 0x046 src v)).trans (by change _ = 0x46; decide)⟩
theorem TableMatch.bltcpth (src : Master) (v : Word) : TableMatch.Statement (.bltcpth src v) :=
  ⟨rfl, (congrArg (· &&& 0x1fe) (tableBits_regw 0x048 src v)).trans (by change _ = 0x48; decide)⟩
theorem TableMatch.bltcptl (src : Master) (v : Word) : TableMatch.Statement (.bltcptl src v) :=
  ⟨rfl, (congrArg (· &&& 0x1fe) (tableBits_regw 0x04A src v)).trans (by change _ = 0x4a; decide)⟩
theorem TableMatch.bltbpth (src : Master) (v : Word) : TableMatch.Statement (.bltbpth src v) :=
  ⟨rfl, (congrArg (· &&& 0x1fe) (tableBits_regw 0x04C src v)).trans (by change _ = 0x4c; decide)⟩
theorem TableMatch.bltbptl (src : Master) (v : Word) : TableMatch.Statement (.bltbptl src v) :=
  ⟨rfl, (congrArg (· &&& 0x1fe) (tableBits_regw 0x04E src v)).trans (by change _ = 0x4e; decide)⟩
theorem TableMatch.bltapth (src : Master) (v : Word) : TableMatch.Statement (.bltapth src v) :=
  ⟨rfl, (congrArg (· &&& 0x1fe) (tableBits_regw 0x050 src v)).trans (by change _ = 0x50; decide)⟩
theorem TableMatch.bltaptl (src : Master) (v : Word) : TableMatch.Statement (.bltaptl src v) :=
  ⟨rfl, (congrArg (· &&& 0x1fe) (tableBits_regw 0x052 src v)).trans (by change _ = 0x52; decide)⟩
theorem TableMatch.bltdpth (src : Master) (v : Word) : TableMatch.Statement (.bltdpth src v) :=
  ⟨rfl, (congrArg (· &&& 0x1fe) (tableBits_regw 0x054 src v)).trans (by change _ = 0x54; decide)⟩
theorem TableMatch.bltdptl (src : Master) (v : Word) : TableMatch.Statement (.bltdptl src v) :=
  ⟨rfl, (congrArg (· &&& 0x1fe) (tableBits_regw 0x056 src v)).trans (by change _ = 0x56; decide)⟩
theorem TableMatch.bltsize (src : Master) (v : Word) : TableMatch.Statement (.bltsize src v) :=
  ⟨rfl, (congrArg (· &&& 0x1fe) (tableBits_regw 0x058 src v)).trans (by change _ = 0x58; decide)⟩
theorem TableMatch.bltcmod (src : Master) (v : Word) : TableMatch.Statement (.bltcmod src v) :=
  ⟨rfl, (congrArg (· &&& 0x1fe) (tableBits_regw 0x060 src v)).trans (by change _ = 0x60; decide)⟩
theorem TableMatch.bltbmod (src : Master) (v : Word) : TableMatch.Statement (.bltbmod src v) :=
  ⟨rfl, (congrArg (· &&& 0x1fe) (tableBits_regw 0x062 src v)).trans (by change _ = 0x62; decide)⟩
theorem TableMatch.bltamod (src : Master) (v : Word) : TableMatch.Statement (.bltamod src v) :=
  ⟨rfl, (congrArg (· &&& 0x1fe) (tableBits_regw 0x064 src v)).trans (by change _ = 0x64; decide)⟩
theorem TableMatch.bltdmod (src : Master) (v : Word) : TableMatch.Statement (.bltdmod src v) :=
  ⟨rfl, (congrArg (· &&& 0x1fe) (tableBits_regw 0x066 src v)).trans (by change _ = 0x66; decide)⟩
theorem TableMatch.bltcdat (src : Master) (v : Word) : TableMatch.Statement (.bltcdat src v) :=
  ⟨rfl, (congrArg (· &&& 0x1fe) (tableBits_regw 0x070 src v)).trans (by change _ = 0x70; decide)⟩
theorem TableMatch.bltbdat (src : Master) (v : Word) : TableMatch.Statement (.bltbdat src v) :=
  ⟨rfl, (congrArg (· &&& 0x1fe) (tableBits_regw 0x072 src v)).trans (by change _ = 0x72; decide)⟩
theorem TableMatch.bltadat (src : Master) (v : Word) : TableMatch.Statement (.bltadat src v) :=
  ⟨rfl, (congrArg (· &&& 0x1fe) (tableBits_regw 0x074 src v)).trans (by change _ = 0x74; decide)⟩
theorem TableMatch.cop1lch (src : Master) (v : Word) : TableMatch.Statement (.cop1lch src v) :=
  ⟨rfl, (congrArg (· &&& 0x1fe) (tableBits_regw 0x080 src v)).trans (by change _ = 0x80; decide)⟩
theorem TableMatch.cop1lcl (src : Master) (v : Word) : TableMatch.Statement (.cop1lcl src v) :=
  ⟨rfl, (congrArg (· &&& 0x1fe) (tableBits_regw 0x082 src v)).trans (by change _ = 0x82; decide)⟩
theorem TableMatch.cop2lch (src : Master) (v : Word) : TableMatch.Statement (.cop2lch src v) :=
  ⟨rfl, (congrArg (· &&& 0x1fe) (tableBits_regw 0x084 src v)).trans (by change _ = 0x84; decide)⟩
theorem TableMatch.cop2lcl (src : Master) (v : Word) : TableMatch.Statement (.cop2lcl src v) :=
  ⟨rfl, (congrArg (· &&& 0x1fe) (tableBits_regw 0x086 src v)).trans (by change _ = 0x86; decide)⟩
theorem TableMatch.copjmp1 (src : Master) (v : Word) : TableMatch.Statement (.copjmp1 src v) :=
  ⟨rfl, (congrArg (· &&& 0x1fe) (tableBits_regw 0x088 src v)).trans (by change _ = 0x88; decide)⟩
theorem TableMatch.copjmp2 (src : Master) (v : Word) : TableMatch.Statement (.copjmp2 src v) :=
  ⟨rfl, (congrArg (· &&& 0x1fe) (tableBits_regw 0x08A src v)).trans (by change _ = 0x8a; decide)⟩
theorem TableMatch.dmacon (src : Master) (v : Word) : TableMatch.Statement (.dmacon src v) :=
  ⟨rfl, (congrArg (· &&& 0x1fe) (tableBits_regw 0x096 src v)).trans (by change _ = 0x96; decide)⟩
theorem TableMatch.bplcon0 (src : Master) (v : Word) : TableMatch.Statement (.bplcon0 src v) :=
  ⟨rfl, (congrArg (· &&& 0x1fe) (tableBits_regw 0x100 src v)).trans (by change _ = 0x100; decide)⟩
theorem TableMatch.praR (c : CiaId) : TableMatch.Statement (.praR c) :=
  ⟨rfl, (congrArg (· &&& 0xf) (tableBits_ciar 0x0 c)).trans (by change _ = 0x0; decide)⟩
theorem TableMatch.prbR (c : CiaId) : TableMatch.Statement (.prbR c) :=
  ⟨rfl, (congrArg (· &&& 0xf) (tableBits_ciar 0x1 c)).trans (by change _ = 0x1; decide)⟩
theorem TableMatch.ddraR (c : CiaId) : TableMatch.Statement (.ddraR c) :=
  ⟨rfl, (congrArg (· &&& 0xf) (tableBits_ciar 0x2 c)).trans (by change _ = 0x2; decide)⟩
theorem TableMatch.ddrbR (c : CiaId) : TableMatch.Statement (.ddrbR c) :=
  ⟨rfl, (congrArg (· &&& 0xf) (tableBits_ciar 0x3 c)).trans (by change _ = 0x3; decide)⟩
theorem TableMatch.taloR (c : CiaId) : TableMatch.Statement (.taloR c) :=
  ⟨rfl, (congrArg (· &&& 0xf) (tableBits_ciar 0x4 c)).trans (by change _ = 0x4; decide)⟩
theorem TableMatch.tahiR (c : CiaId) : TableMatch.Statement (.tahiR c) :=
  ⟨rfl, (congrArg (· &&& 0xf) (tableBits_ciar 0x5 c)).trans (by change _ = 0x5; decide)⟩
theorem TableMatch.tbloR (c : CiaId) : TableMatch.Statement (.tbloR c) :=
  ⟨rfl, (congrArg (· &&& 0xf) (tableBits_ciar 0x6 c)).trans (by change _ = 0x6; decide)⟩
theorem TableMatch.tbhiR (c : CiaId) : TableMatch.Statement (.tbhiR c) :=
  ⟨rfl, (congrArg (· &&& 0xf) (tableBits_ciar 0x7 c)).trans (by change _ = 0x7; decide)⟩
theorem TableMatch.todloR (c : CiaId) : TableMatch.Statement (.todloR c) :=
  ⟨rfl, (congrArg (· &&& 0xf) (tableBits_ciar 0x8 c)).trans (by change _ = 0x8; decide)⟩
theorem TableMatch.todmidR (c : CiaId) : TableMatch.Statement (.todmidR c) :=
  ⟨rfl, (congrArg (· &&& 0xf) (tableBits_ciar 0x9 c)).trans (by change _ = 0x9; decide)⟩
theorem TableMatch.todhiR (c : CiaId) : TableMatch.Statement (.todhiR c) :=
  ⟨rfl, (congrArg (· &&& 0xf) (tableBits_ciar 0xA c)).trans (by change _ = 0xa; decide)⟩
theorem TableMatch.regbR (c : CiaId) : TableMatch.Statement (.regbR c) :=
  ⟨rfl, (congrArg (· &&& 0xf) (tableBits_ciar 0xB c)).trans (by change _ = 0xb; decide)⟩
theorem TableMatch.sdrR (c : CiaId) : TableMatch.Statement (.sdrR c) :=
  ⟨rfl, (congrArg (· &&& 0xf) (tableBits_ciar 0xC c)).trans (by change _ = 0xc; decide)⟩
theorem TableMatch.icrR (c : CiaId) : TableMatch.Statement (.icrR c) :=
  ⟨rfl, (congrArg (· &&& 0xf) (tableBits_ciar 0xD c)).trans (by change _ = 0xd; decide)⟩
theorem TableMatch.craR (c : CiaId) : TableMatch.Statement (.craR c) :=
  ⟨rfl, (congrArg (· &&& 0xf) (tableBits_ciar 0xE c)).trans (by change _ = 0xe; decide)⟩
theorem TableMatch.crbR (c : CiaId) : TableMatch.Statement (.crbR c) :=
  ⟨rfl, (congrArg (· &&& 0xf) (tableBits_ciar 0xF c)).trans (by change _ = 0xf; decide)⟩
theorem TableMatch.praW (c : CiaId) (v : Byte) : TableMatch.Statement (.praW c v) :=
  ⟨rfl, (congrArg (· &&& 0xf) (tableBits_ciaw 0x0 c v)).trans (by change _ = 0x0; decide)⟩
theorem TableMatch.prbW (c : CiaId) (v : Byte) : TableMatch.Statement (.prbW c v) :=
  ⟨rfl, (congrArg (· &&& 0xf) (tableBits_ciaw 0x1 c v)).trans (by change _ = 0x1; decide)⟩
theorem TableMatch.ddraW (c : CiaId) (v : Byte) : TableMatch.Statement (.ddraW c v) :=
  ⟨rfl, (congrArg (· &&& 0xf) (tableBits_ciaw 0x2 c v)).trans (by change _ = 0x2; decide)⟩
theorem TableMatch.ddrbW (c : CiaId) (v : Byte) : TableMatch.Statement (.ddrbW c v) :=
  ⟨rfl, (congrArg (· &&& 0xf) (tableBits_ciaw 0x3 c v)).trans (by change _ = 0x3; decide)⟩
theorem TableMatch.taloW (c : CiaId) (v : Byte) : TableMatch.Statement (.taloW c v) :=
  ⟨rfl, (congrArg (· &&& 0xf) (tableBits_ciaw 0x4 c v)).trans (by change _ = 0x4; decide)⟩
theorem TableMatch.tahiW (c : CiaId) (v : Byte) : TableMatch.Statement (.tahiW c v) :=
  ⟨rfl, (congrArg (· &&& 0xf) (tableBits_ciaw 0x5 c v)).trans (by change _ = 0x5; decide)⟩
theorem TableMatch.tbloW (c : CiaId) (v : Byte) : TableMatch.Statement (.tbloW c v) :=
  ⟨rfl, (congrArg (· &&& 0xf) (tableBits_ciaw 0x6 c v)).trans (by change _ = 0x6; decide)⟩
theorem TableMatch.tbhiW (c : CiaId) (v : Byte) : TableMatch.Statement (.tbhiW c v) :=
  ⟨rfl, (congrArg (· &&& 0xf) (tableBits_ciaw 0x7 c v)).trans (by change _ = 0x7; decide)⟩
theorem TableMatch.todloW (c : CiaId) (v : Byte) : TableMatch.Statement (.todloW c v) :=
  ⟨rfl, (congrArg (· &&& 0xf) (tableBits_ciaw 0x8 c v)).trans (by change _ = 0x8; decide)⟩
theorem TableMatch.todmidW (c : CiaId) (v : Byte) : TableMatch.Statement (.todmidW c v) :=
  ⟨rfl, (congrArg (· &&& 0xf) (tableBits_ciaw 0x9 c v)).trans (by change _ = 0x9; decide)⟩
theorem TableMatch.todhiW (c : CiaId) (v : Byte) : TableMatch.Statement (.todhiW c v) :=
  ⟨rfl, (congrArg (· &&& 0xf) (tableBits_ciaw 0xA c v)).trans (by change _ = 0xa; decide)⟩
theorem TableMatch.regbW (c : CiaId) (v : Byte) : TableMatch.Statement (.regbW c v) :=
  ⟨rfl, (congrArg (· &&& 0xf) (tableBits_ciaw 0xB c v)).trans (by change _ = 0xb; decide)⟩
theorem TableMatch.sdrW (c : CiaId) (v : Byte) : TableMatch.Statement (.sdrW c v) :=
  ⟨rfl, (congrArg (· &&& 0xf) (tableBits_ciaw 0xC c v)).trans (by change _ = 0xc; decide)⟩
theorem TableMatch.imrW (c : CiaId) (v : Byte) : TableMatch.Statement (.imrW c v) :=
  ⟨rfl, (congrArg (· &&& 0xf) (tableBits_ciaw 0xD c v)).trans (by change _ = 0xd; decide)⟩
theorem TableMatch.craW (c : CiaId) (v : Byte) : TableMatch.Statement (.craW c v) :=
  ⟨rfl, (congrArg (· &&& 0xf) (tableBits_ciaw 0xE c v)).trans (by change _ = 0xe; decide)⟩
theorem TableMatch.crbW (c : CiaId) (v : Byte) : TableMatch.Statement (.crbW c v) :=
  ⟨rfl, (congrArg (· &&& 0xf) (tableBits_ciaw 0xF c v)).trans (by change _ = 0xf; decide)⟩
theorem TableMatch.autoconfRead (off : BitVec 16) : TableMatch.Statement (.autoconfRead off) := ⟨rfl, Nat.and_zero _⟩
theorem TableMatch.autoconfBaseHi (v : Byte) : TableMatch.Statement (.autoconfBaseHi v) :=
  ⟨rfl, (congrArg (· &&& 0xffff) (tableBits_zorrow 0x48 v)).trans (by change _ = 0x48; decide)⟩
theorem TableMatch.autoconfBaseLo (v : Byte) : TableMatch.Statement (.autoconfBaseLo v) :=
  ⟨rfl, (congrArg (· &&& 0xffff) (tableBits_zorrow 0x4A v)).trans (by change _ = 0x4a; decide)⟩
theorem TableMatch.autoconfShutup (v : Byte) : TableMatch.Statement (.autoconfShutup v) :=
  ⟨rfl, (congrArg (· &&& 0xffff) (tableBits_zorrow 0x4C v)).trans (by change _ = 0x4c; decide)⟩

end Sys2Proof.Laws
end

