-- ==== Sys2Proof/Tests/Slice0.lean ====
section
/-! SUPPORT. Tests: ill-formed terms are refused, words written out from the spec's tables decode to their
instructions, single operations give the values of spec/95_test_vectors.md and of the rules' examples, and every
statement with hypotheses has a witness that meets them. -/

namespace Sys2Proof.Tests

-- One theorem after the other: elaborated together, so many kernel evaluations ask for more threads than there is memory.
set_option Elab.async false

open Sys2Proof.Machine
open Host (Outcome)

/-! ## Helpers -/

/-- What a function gives of the next state, if there is one. -/
def got {α : Type} (o : Out) (f : State → α) : Option α :=
  match o with
  | .next t => some (f t)
  | _ => none

/-- The refusal, if it is one. -/
def refusal (o : Out) : Option Refusal :=
  match o with
  | .refused r => some r
  | _ => none

/-- The instruction some bytes decode to. -/
def dec (f : Format) (bytes : List Byte) : Option Instr := (decode { format := f, bytes := bytes }).toOption

/-- An operation's result, from a state. -/
def res (i : Instr) (s : State) : Option Result := got (exec i s) State.result

/-- A reset machine with some bytes in chip RAM from an address on. -/
def withRam (a : Nat) (bytes : List Byte) : State := { State.reset with chipRam := Memory.ofBytes a bytes }

/-- A reset machine with a CIA A. -/
def withCia (x : Cia) : State := { State.reset with ciaA := x }

/-- A reset machine at a raster position. -/
def atPos (line : BitVec 9) (cycle : BitVec 8) : State := { State.reset with line := line, cycle := cycle }

/-- A long frame. -/
def longFrame : Frame := { sequenceNumber := 1, isLongFrame := true, wasLongFramePrev := false }

/-- An armed Copper with its DMA on, at 0x1000, over a list. -/
def armed (bytes : List Byte) : State :=
  { withRam 0x1000 bytes with
    cop := { Copper.reset with active := true, programCounter := 0x1000 }, agnus := { Agnus.reset with dmacon := 0x280 } }

/-- A Copper asleep on a WAIT whose words it holds. -/
def asleep (ir1 ir2 : Word) (s : State) : State :=
  { s with
    cop := { s.cop with active := true, waiting := true, ir1 := ir1, lastInstructionWord := ir2, programCounter := 0x1000 }
    agnus := { s.agnus with dmacon := 0x280 } }

/-- A one-word blit of ones to 0x100 in flight, with its DMA on. -/
def blitting : State :=
  { State.reset with
    agnus := { Agnus.reset with dmacon := 0x240 }
    blt := { Blitter.reset with control0 := 0x01FF, ptrD := 0x100, width := 1, height := 1, xCounter := 1, yCounter := 1,
                                busyFlag := true, zeroFlag := true, firstWordFlag := true, lastWordFlag := true } }

/-- The inputs of a cycle that does nothing. -/
def quiet : CycleInputs := CycleInputs.quiet

/-- A mapper configured at a base. -/
def fastAt (base : Long) : State := { State.reset with zorro := { fastRamConfigState := 1, fastRamBaseAddress := base } }

/-- Inputs with something in every field: claims of the CPU, the disk, AUD0, AUD2, BPL1, BPL6, SPR0 and SPR7. -/
def busyInputs : CycleInputs :=
  { cpuClaim := true, todPulseA := true, todPulseB := false, disk := true, aud := 5, bpl := 0x21, spr := 0x81,
    pinsA := { portA := 0xAA, portB := 0x55 }, pinsB := { portA := 0x0F, portB := 0xF0 } }

/-! ## WellFormed refuses an ill-formed term for each of its checks -/

theorem test_wf_refuses_peek_beyond_32_bits : (Instr.peek (2 ^ 32)).wellFormed = false := by decide
theorem test_wf_refuses_poke_beyond_32_bits : (Instr.poke (2 ^ 32) 0).wellFormed = false := by decide
theorem test_wf_refuses_snapsave_beyond_64_bits : (Instr.snapsave (2 ^ 64)).wellFormed = false := by decide
theorem test_wf_accepts_the_largest_operands :
    (Instr.peek (2 ^ 32 - 1)).wellFormed && (Instr.poke (2 ^ 32 - 1) 0).wellFormed
      && (Instr.snapsave (2 ^ 64 - 1)).wellFormed = true := by decide

/-! ## Decoding: words written out from the spec's tables -/

/-- R102 to R104; programs P1 to P3 and vectors CO-1, CO-2 of 95_test_vectors.md. -/
theorem test_decode_copper_words : ([
    ([0x01, 0x80, 0x0F, 0x00], .move 0xC0 0x0F00),
    ([0xFE, 0x40, 0x12, 0x34], .move 0x20 0x1234),
    ([0x64, 0x33, 0xFF, 0xFE], .wait { vp := 100, hp := 25, bfd := true, ve := 0x7F, he := 0x7F }),
    ([0x00, 0x01, 0x7F, 0xFE], .wait { vp := 0, hp := 0, bfd := false, ve := 0x7F, he := 0x7F }),
    ([0x00, 0x41, 0x80, 0xFE], .wait { vp := 0, hp := 0x20, bfd := true, ve := 0, he := 0x7F }),
    ([0x00, 0x09, 0xFF, 0xFF], .skip { vp := 0, hp := 4, bfd := true, ve := 0x7F, he := 0x7F }),
    ([0x64, 0x01, 0x8F, 0x01], .skip { vp := 100, hp := 0, bfd := true, ve := 0x0F, he := 0 })] : List (List Byte × Instr)).all (fun p => decide (dec .copper p.1 = some p.2)) = true := by decide +kernel

/-- R123; the operand bytes are those of log 3. -/
theorem test_decode_host_operations : ([
    ([0x00, 0x01], .reset true),
    ([0x01, 0x5B, 0x21, 0x81, 0xAA, 0x55, 0x0F, 0xF0], .advance busyInputs),
    ([0x02, 0x01, 0xDF, 0xF0, 0x06], .peek 0x1DFF006),
    ([0x03, 0x00, 0xBF, 0xEE, 0x01, 0x11], .poke 0xBFEE01 0x11),
    ([0x04], .snapsize),
    ([0x05, 0, 0, 0, 0, 0, 0, 0x12, 0x34], .snapsave 0x1234),
    ([0x06, 0xDE, 0xAD], .snapload [0xDE, 0xAD]),
    ([0x07, 0x00, 0x96, 0x82, 0x80], .regwrite 0x096 0x8280),
    ([0x08, 0x00, 0x06], .regread 0x006)] : List (List Byte × Instr)).all (fun p => decide (dec .host p.1 = some p.2)) = true := by decide +kernel

/-- R107 (bit 0 and the bits above 8 do not count) and the read column of R110. -/
theorem test_decode_register_reads : ([
    ([0x00, 0x02], .dmaconr),
    ([0x00, 0x04], .vposr),
    ([0x00, 0x06], .vhposr),
    ([0x00, 0x07], .vhposr),
    ([0xFE, 0x02], .dmaconr)] : List (List Byte × Instr)).all (fun p => decide (dec .regr p.1 = some p.2)) = true := by decide +kernel

/-- The write column of R110, 0x02A to 0x058. -/
theorem test_decode_register_writes_low : ([
    ([0x00, 0x2A, 0x12, 0x34, 0x00], .vposw .host 0x1234),
    ([0x00, 0x2C, 0x12, 0x34, 0x00], .vhposw .host 0x1234),
    ([0x00, 0x2E, 0x12, 0x34, 0x00], .copcon .host 0x1234),
    ([0x00, 0x40, 0x12, 0x34, 0x00], .bltcon0 .host 0x1234),
    ([0x00, 0x42, 0x12, 0x34, 0x00], .bltcon1 .host 0x1234),
    ([0x00, 0x44, 0x12, 0x34, 0x00], .bltafwm .host 0x1234),
    ([0x00, 0x46, 0x12, 0x34, 0x00], .bltalwm .host 0x1234),
    ([0x00, 0x48, 0x12, 0x34, 0x00], .bltcpth .host 0x1234),
    ([0x00, 0x4A, 0x12, 0x34, 0x00], .bltcptl .host 0x1234),
    ([0x00, 0x4C, 0x12, 0x34, 0x00], .bltbpth .host 0x1234),
    ([0x00, 0x4E, 0x12, 0x34, 0x00], .bltbptl .host 0x1234),
    ([0x00, 0x50, 0x12, 0x34, 0x00], .bltapth .host 0x1234),
    ([0x00, 0x52, 0x12, 0x34, 0x00], .bltaptl .host 0x1234),
    ([0x00, 0x54, 0x12, 0x34, 0x00], .bltdpth .host 0x1234),
    ([0x00, 0x56, 0x12, 0x34, 0x00], .bltdptl .host 0x1234),
    ([0x00, 0x58, 0x12, 0x34, 0x00], .bltsize .host 0x1234)] : List (List Byte × Instr)).all (fun p => decide (dec .regw p.1 = some p.2)) = true := by decide +kernel

/-- The write column of R110, 0x060 to 0x100; R107: bit 0 and the bits above 8 do not count, either master. -/
theorem test_decode_register_writes_high : ([
    ([0x00, 0x60, 0x12, 0x34, 0x00], .bltcmod .host 0x1234),
    ([0x00, 0x62, 0x12, 0x34, 0x00], .bltbmod .host 0x1234),
    ([0x00, 0x64, 0x12, 0x34, 0x00], .bltamod .host 0x1234),
    ([0x00, 0x66, 0x12, 0x34, 0x00], .bltdmod .host 0x1234),
    ([0x00, 0x70, 0x12, 0x34, 0x00], .bltcdat .host 0x1234),
    ([0x00, 0x72, 0x12, 0x34, 0x00], .bltbdat .host 0x1234),
    ([0x00, 0x74, 0x12, 0x34, 0x00], .bltadat .host 0x1234),
    ([0x00, 0x80, 0x12, 0x34, 0x00], .cop1lch .host 0x1234),
    ([0x00, 0x82, 0x12, 0x34, 0x00], .cop1lcl .host 0x1234),
    ([0x00, 0x84, 0x12, 0x34, 0x00], .cop2lch .host 0x1234),
    ([0x00, 0x86, 0x12, 0x34, 0x00], .cop2lcl .host 0x1234),
    ([0x00, 0x88, 0x12, 0x34, 0x00], .copjmp1 .host 0x1234),
    ([0x00, 0x8A, 0x12, 0x34, 0x00], .copjmp2 .host 0x1234),
    ([0x00, 0x96, 0x12, 0x34, 0x00], .dmacon .host 0x1234),
    ([0x01, 0x00, 0x12, 0x34, 0x00], .bplcon0 .host 0x1234),
    ([0x00, 0x41, 0x09, 0xF0, 0x01], .bltcon0 .copper 0x09F0),
    ([0xFF, 0x00, 0x00, 0x04, 0x01], .bplcon0 .copper 0x0004)] : List (List Byte × Instr)).all (fun p => decide (dec .regw p.1 = some p.2)) = true := by decide +kernel

/-- R118, the read column. -/
theorem test_decode_cia_reads : ([
    ([0x00, 0x01], .praR .b),
    ([0x01, 0x00], .prbR .a),
    ([0x02, 0x01], .ddraR .b),
    ([0x03, 0x00], .ddrbR .a),
    ([0x04, 0x01], .taloR .b),
    ([0x05, 0x00], .tahiR .a),
    ([0x06, 0x01], .tbloR .b),
    ([0x07, 0x00], .tbhiR .a),
    ([0x08, 0x01], .todloR .b),
    ([0x09, 0x00], .todmidR .a),
    ([0x0A, 0x01], .todhiR .b),
    ([0x0B, 0x00], .regbR .a),
    ([0x0C, 0x01], .sdrR .b),
    ([0x0D, 0x00], .icrR .a),
    ([0x0E, 0x01], .craR .b),
    ([0x0F, 0x00], .crbR .a)] : List (List Byte × Instr)).all (fun p => decide (dec .ciar p.1 = some p.2)) = true := by decide +kernel

/-- R118, the write column. -/
theorem test_decode_cia_writes : ([
    ([0x00, 0x00, 0xA5], .praW .a 0xA5),
    ([0x01, 0x01, 0xA5], .prbW .b 0xA5),
    ([0x02, 0x00, 0xA5], .ddraW .a 0xA5),
    ([0x03, 0x01, 0xA5], .ddrbW .b 0xA5),
    ([0x04, 0x00, 0xA5], .taloW .a 0xA5),
    ([0x05, 0x01, 0xA5], .tahiW .b 0xA5),
    ([0x06, 0x00, 0xA5], .tbloW .a 0xA5),
    ([0x07, 0x01, 0xA5], .tbhiW .b 0xA5),
    ([0x08, 0x00, 0xA5], .todloW .a 0xA5),
    ([0x09, 0x01, 0xA5], .todmidW .b 0xA5),
    ([0x0A, 0x00, 0xA5], .todhiW .a 0xA5),
    ([0x0B, 0x01, 0xA5], .regbW .b 0xA5),
    ([0x0C, 0x00, 0xA5], .sdrW .a 0xA5),
    ([0x0D, 0x01, 0xA5], .imrW .b 0xA5),
    ([0x0E, 0x00, 0xA5], .craW .a 0xA5),
    ([0x0F, 0x01, 0xA5], .crbW .b 0xA5)] : List (List Byte × Instr)).all (fun p => decide (dec .ciaw p.1 = some p.2)) = true := by decide +kernel

/-- R122, reads. -/
theorem test_decode_autoconfig_reads : ([
    ([0x00, 0x02], .autoconfRead 0x0002),
    ([0xFF, 0xFE], .autoconfRead 0xFFFE)] : List (List Byte × Instr)).all (fun p => decide (dec .zorror p.1 = some p.2)) = true := by decide +kernel

/-- R122, the three write offsets. -/
theorem test_decode_autoconfig_writes : ([
    ([0x00, 0x48, 0x20], .autoconfBaseHi 0x20),
    ([0x00, 0x4A, 0x50], .autoconfBaseLo 0x50),
    ([0x00, 0x4C, 0x00], .autoconfShutup 0x00)] : List (List Byte × Instr)).all (fun p => decide (dec .zorrow p.1 = some p.2)) = true := by decide +kernel

/-- Reserved codes (R124), short requests and addresses without a row are rejected by name. -/
theorem test_decode_rejects_by_name :
    decode { format := .host, bytes := [0x09] } = .error .reservedHostOp
      ∧ decode { format := .host, bytes := [0x0F] } = .error .reservedHostOp
      ∧ decode { format := .copper, bytes := [0x01, 0x80, 0x0F] } = .error .truncated
      ∧ decode { format := .regr, bytes := [0x00, 0x96] } = .error .noSuchRow
      ∧ decode { format := .regw, bytes := [0x01, 0x80, 0x0F, 0xFF, 0x00] } = .error .noSuchRow
      ∧ decode { format := .zorrow, bytes := [0x00, 0x44, 0x00] } = .error .noSuchRow := by
  refine ⟨rfl, rfl, rfl, rfl, rfl, rfl⟩

/-! ## Single operations, from the spec's vectors -/

/-! ### The Copper -/

-- R159's first steps and program P1: the granted MOVE is forwarded
theorem test_move_in_a_cycle :
    got (exec (.advance quiet) (armed [0x01, 0x80, 0x0F, 0x00])) (fun t => (t.events, t.cop.programCounter))
      = some ([.regWriteOut .copper 0x180 0x0F00], 0x1004) := by decide +kernel
-- CO-2: the row of ir1 = 0x0040 with cdang false
theorem test_move_discarded :
    got (exec (.move 0x20 0x1234) State.reset) (fun t => (t.events, t.blt.control0))
      = some ([.copperDiscard 0x040 0x1234], 0) := by decide +kernel
-- CO-1: at (100, 49) not reached, at (100, 50) reached
theorem test_wait_sleeps_before_cycle_50 :
    got (exec (.wait (beamTargetOf 0x6433 0xFFFE)) (atPos 100 49)) (fun t => t.cop.waiting) = some true := by decide +kernel
theorem test_wait_passes_at_cycle_50 :
    got (exec (.wait (beamTargetOf 0x6433 0xFFFE)) (atPos 100 50)) (fun t => t.cop.waiting) = some false := by decide +kernel
-- CO-1: lines seen modulo 256, line bit 7 always compared, bit 8 never
theorem test_beam_reached_vectors : ([
    (0x6433, 0xFFFE, 99, 226, false), (0x6433, 0xFFFE, 101, 0, true), (0x6433, 0xFFFE, 256, 100, false),
    (0x6433, 0xFFFE, 312, 226, false), (0xFFFF, 0xFFFE, 255, 226, false), (0xFFDF, 0xFFFE, 255, 221, false),
    (0xFFDF, 0xFFFE, 255, 222, true), (0x0401, 0x8FFE, 16, 0, false), (0x0401, 0x8FFE, 20, 0, true),
    (0x0401, 0x8FFE, 128, 0, true), (0x6401, 0xFF00, 99, 226, false), (0x0041, 0x80FE, 50, 63, false),
    (0x0041, 0x80FE, 50, 64, true), (0x8041, 0x80FE, 127, 128, false), (0x64E5, 0xFFFE, 101, 0, true)]
    : List (Word × Word × BitVec 9 × BitVec 8 × Bool)).all
      (fun p => waitSatisfied p.1 p.2.1 (atPos p.2.2.1 p.2.2.2.1) == p.2.2.2.2) = true := by decide +kernel
-- R186's example: line 120 and line 90
theorem test_skip_taken :
    got (exec (.skip (beamTargetOf 0x6401 0xFF01)) { atPos 120 0 with cop := { Copper.reset with programCounter := 0x2004 } })
      (fun t => t.cop.programCounter) = some 0x2008 := by decide +kernel
theorem test_skip_not_taken :
    got (exec (.skip (beamTargetOf 0x6401 0xFF01)) { atPos 90 0 with cop := { Copper.reset with programCounter := 0x2004 } })
      (fun t => t.cop.programCounter) = some 0x2004 := by decide +kernel
-- R189's example, and program P3 step 9: the Copper's jump to a zero base retires it
theorem test_copjmp1_host :
    got (exec (.copjmp1 .host 0) { State.reset with cop := { Copper.reset with list1Base := 0x1000, waiting := true } })
      (fun t => (t.cop.programCounter, t.cop.activeListId, t.cop.active, t.cop.waiting))
      = some (0x1000, .one, true, false) := by decide +kernel
theorem test_copjmp2_retires :
    got (exec (.copjmp2 .copper 0) { State.reset with cop := { Copper.reset with active := true } })
      (fun t => (t.cop.activeListId, t.cop.active)) = some (.two, false) := by decide +kernel
-- R191's example; CO-5
theorem test_cop1lch :
    got (exec (.cop1lch .host 0x0002) { State.reset with cop := { Copper.reset with list1Base := 0x1000 } })
      (fun t => t.cop.list1Base) = some 0x00021000 := by decide +kernel
theorem test_cop1lcl :
    got (exec (.cop1lcl .copper 0x3000) State.reset) (fun t => t.cop.list1Base) = some 0x3000 := by decide +kernel
-- R193, R194: the other list
theorem test_cop2lch :
    got (exec (.cop2lch .host 0x0002) State.reset) (fun t => (t.cop.list1Base, t.cop.list2Base))
      = some (0, 0x00020000) := by decide +kernel
theorem test_cop2lcl :
    got (exec (.cop2lcl .host 0x2000) State.reset) (fun t => (t.cop.list1Base, t.cop.list2Base))
      = some (0, 0x2000) := by decide +kernel
-- R195's example
theorem test_copcon : got (exec (.copcon .host 0x0002) State.reset) (fun t => t.cop.cdang) = some true := by decide +kernel

/-! ### Agnus -/

-- AG-4, two rows
theorem test_dmacon_sets :
    got (exec (.dmacon .host 0x83C0) { State.reset with agnus := { Agnus.reset with dmacon := 0x200 } })
      (fun t => t.agnus.dmacon) = some 0x3C0 := by decide +kernel
theorem test_dmacon_clears :
    got (exec (.dmacon .host 0x0200) { State.reset with agnus := { Agnus.reset with dmacon := 0x7FF } })
      (fun t => t.agnus.dmacon) = some 0x5FF := by decide +kernel
-- R153's example: 0x63C0
theorem test_dmaconr :
    res .dmaconr { State.reset with
      agnus := { Agnus.reset with dmacon := 0x3C0 }, blt := { Blitter.reset with busyFlag := true, zeroFlag := true } }
      = some (.word 0x63C0) := by decide +kernel
-- R154's and R155's examples: long frame, line 300, cycle 50
theorem test_vposr : res .vposr { atPos 300 50 with frame := longFrame } = some (.word 0x8001) := by decide +kernel
theorem test_vhposr : res .vhposr (atPos 300 50) = some (.word 0x2C32) := by decide +kernel
-- R157's example
theorem test_bplcon0 :
    got (exec (.bplcon0 .host 0x0204) State.reset) (fun t => (t.agnus.interlaceEnabled, t.events))
      = some (true, [.regWriteOut .host 0x100 0x0204]) := by decide +kernel
-- AG-5
theorem test_vposw_refused : refusal (exec (.vposw .host 0x8000) State.reset) = some .rasterPositionWrite := by decide +kernel
theorem test_vhposw_refused : refusal (exec (.vhposw .host 0) State.reset) = some .rasterPositionWrite := by decide +kernel
-- AG-1, steps 227 and 70,824
theorem test_advance_ends_a_line :
    got (exec (.advance quiet) (atPos 0 226)) (fun t => (t.line, t.cycle, t.agnus.hsync, t.agnus.frameStart))
      = some (1, 0, true, false) := by decide +kernel
theorem test_advance_ends_a_frame :
    got (exec (.advance quiet) { atPos 311 226 with agnus := { Agnus.reset with interlaceEnabled := true } })
      (fun t => (t.line, t.cycle, t.frame, t.agnus.frameStart)) = some (0, 0, longFrame, true) := by decide +kernel
-- AR-3, AR-5, AR-6, AR-7
theorem test_arbitration_between_channels :
    got (exec (.advance { quiet with spr := 0x80, bpl := 0x20, aud := 0x8 }) State.reset) (fun t => t.agnus.busOwner)
      = some (some .aud3) := by decide +kernel
theorem test_arbitration_of_a_blit :
    got (exec (.advance quiet) blitting)
      (fun t => (t.agnus.busOwner, t.blt.busyFlag, chipByte t 0x100, chipByte t 0x101))
        = some (some .blitter, false, 0xFF, 0xFF)
      ∧ got (exec (.advance { quiet with cpuClaim := true }) blitting) (fun t => (t.agnus.busOwner, t.blt.busyFlag))
        = some (some .cpu, true)
      ∧ got (exec (.advance { quiet with cpuClaim := true }) { blitting with agnus := { blitting.agnus with dmacon := 0x640 } })
          (fun t => t.agnus.busOwner) = some (some .blitter) := by decide +kernel

/-! ### The Blitter -/

-- R215's example, and R222 by the same rule
theorem test_bltcpth :
    got (exec (.bltcpth .host 1) { State.reset with blt := { Blitter.reset with ptrC := 0x1234 } }) (fun t => t.blt.ptrC)
      = some 0x00011234 := by decide +kernel
theorem test_bltcptl : got (exec (.bltcptl .host 0x5678) State.reset) (fun t => t.blt.ptrC) = some 0x5678 := by decide +kernel
theorem test_bltbpth : got (exec (.bltbpth .host 1) State.reset) (fun t => t.blt.ptrB) = some 0x10000 := by decide +kernel
theorem test_bltbptl : got (exec (.bltbptl .host 0x2000) State.reset) (fun t => t.blt.ptrB) = some 0x2000 := by decide +kernel
theorem test_bltapth : got (exec (.bltapth .host 1) State.reset) (fun t => t.blt.ptrA) = some 0x10000 := by decide +kernel
theorem test_bltaptl : got (exec (.bltaptl .copper 0x4000) State.reset) (fun t => t.blt.ptrA) = some 0x4000 := by decide +kernel
theorem test_bltdpth : got (exec (.bltdpth .host 1) State.reset) (fun t => t.blt.ptrD) = some 0x10000 := by decide +kernel
theorem test_bltdptl : got (exec (.bltdptl .host 0x5000) State.reset) (fun t => t.blt.ptrD) = some 0x5000 := by decide +kernel
-- R211 to R214, R223 to R229: each value goes to its own register
theorem test_bltcon0 : got (exec (.bltcon0 .host 0x09F0) State.reset) (fun t => t.blt.control0) = some 0x09F0 := by decide +kernel
theorem test_bltcon1 : got (exec (.bltcon1 .host 0x4000) State.reset) (fun t => t.blt.control1) = some 0x4000 := by decide +kernel
theorem test_bltafwm : got (exec (.bltafwm .host 0x00FF) State.reset) (fun t => t.blt.firstMask) = some 0x00FF := by decide +kernel
theorem test_bltalwm : got (exec (.bltalwm .host 0xFF00) State.reset) (fun t => t.blt.lastMask) = some 0xFF00 := by decide +kernel
theorem test_bltcmod : got (exec (.bltcmod .host 6) State.reset) (fun t => t.blt.modC) = some 6 := by decide +kernel
theorem test_bltbmod : got (exec (.bltbmod .host 6) State.reset) (fun t => t.blt.modB) = some 6 := by decide +kernel
theorem test_bltamod : got (exec (.bltamod .host 6) State.reset) (fun t => t.blt.modA) = some 6 := by decide +kernel
theorem test_bltdmod : got (exec (.bltdmod .host 0xFFFE) State.reset) (fun t => t.blt.modD) = some 0xFFFE := by decide +kernel
theorem test_bltcdat : got (exec (.bltcdat .host 0xF000) State.reset) (fun t => t.blt.holdC) = some 0xF000 := by decide +kernel
theorem test_bltbdat : got (exec (.bltbdat .host 0xF000) State.reset) (fun t => t.blt.holdB) = some 0xF000 := by decide +kernel
theorem test_bltadat : got (exec (.bltadat .host 0xFFFF) State.reset) (fun t => t.blt.holdA) = some 0xFFFF := by decide +kernel
-- BL-12
theorem test_bltsize_zero_means_most :
    got (exec (.bltsize .host 0) State.reset) (fun t => (t.blt.width, t.blt.height, t.blt.busyFlag, t.blt.zeroFlag))
      = some (64, 1024, true, true) := by decide +kernel
theorem test_bltsize_line_mode_refused :
    refusal (exec (.bltsize .host 0x0041) { State.reset with blt := { Blitter.reset with control1 := 1 } })
      = some .blitterModeNotSpecified := by decide +kernel
-- BL-1, nine rows
theorem test_minterm_vectors : ([(0x00, 0x0000), (0xFF, 0xFFFF), (0xF0, 0xF0F0), (0xCC, 0xCCCC), (0xAA, 0xAAAA),
    (0xCA, 0xCACA), (0xE2, 0xE2E2), (0x96, 0x9696), (0x01, 0x0101)] : List (Byte × Word)).all
      (fun p => mintermWord p.1 0xF0F0 0xCCCC 0xAAAA == p.2) = true := by decide +kernel
-- BL-2
theorem test_fill_vectors : ([(0x0024, false, 0x003C, 0x001C, false), (0x0004, false, 0xFFFC, 0xFFFC, true),
    (0x0000, true, 0xFFFF, 0xFFFF, true), (0x8001, false, 0xFFFF, 0x7FFF, false), (0x0024, true, 0xFFE7, 0xFFE3, true),
    (0xFFFF, false, 0xFFFF, 0x5555, false), (0x0100, true, 0x01FF, 0x00FF, false)]
    : List (Word × Bool × Word × Word × Bool)).all
      (fun p => fillWord false p.1 p.2.1 == p.2.2.1 && fillWord true p.1 p.2.1 == p.2.2.2.1
        && fillCarryAt p.1 p.2.1 16 == p.2.2.2.2) = true := by decide +kernel
-- BL-9: the shifter's history
theorem test_funnel_vectors :
    funnelShift 0x0000 0x12AB 8 = 0x0012 ∧ funnelShift 0x12AB 0x34CD 8 = 0xAB34 ∧ funnelShift 0x000F 0xF000 4 = 0xFF00 := by
  decide +kernel
-- S3 instance (a), first word (BLTCON0 = 0x4DCA): 0x000F and 0x0F0F
theorem test_blitter_word_and :
    (combineWord { Blitter.reset with
      control0 := 0x4DCA, firstMask := 0xFFFF, lastMask := 0xFFFF, holdA := 0x00FF, holdB := 0x0F0F, firstWordFlag := true,
      zeroFlag := true }).holdD = 0x000F := by decide +kernel
-- BL-5, step 2: the last word of a line moves the pointers by the modulo
theorem test_blitter_word_ends_a_line :
    let t := stepOneWord { withRam 0x1002 [0x10, 0x01] with
      blt := { Blitter.reset with
        control0 := 0x09F0, firstMask := 0xFFFF, lastMask := 0xFFFF, ptrA := 0x1002, ptrD := 0x3002, modA := 6, modD := 6,
        width := 2, height := 2, xCounter := 1, yCounter := 2, busyFlag := true, zeroFlag := true, lastWordFlag := true } }
    t.blt.ptrA = 0x1008 ∧ t.blt.ptrD = 0x3008 ∧ t.blt.xCounter = 2 ∧ t.blt.yCounter = 1 ∧ t.blt.firstWordFlag = true
      ∧ t.chipRam.find 0x3002 = some 0x10 ∧ t.chipRam.find 0x3003 = some 0x01 := by decide +kernel

/-! ### The CIAs -/

-- R280's example
theorem test_pra_read :
    res (.praR .a) (withCia { Cia.reset with portA := { register := 0xF0, direction := 0x3C, port := 0xAA } })
      = some (.byte 0xB2) := by decide +kernel
-- CI-6 before a tick: PB7 pulse low over an output bit
theorem test_prb_read :
    res (.prbR .a) (withCia { Cia.reset with
      portB := { register := 0xFF, direction := 0xFF, port := 0 }, timerB := { Timer.reset with cr := 0x03 } })
      = some (.byte 0x7F) := by decide +kernel
theorem test_ddra_read :
    res (.ddraR .a) (withCia { Cia.reset with portA := { Port.reset with direction := 0x03 } }) = some (.byte 0x03) := by
  decide +kernel
theorem test_ddrb_read :
    res (.ddrbR .a) (withCia { Cia.reset with portB := { Port.reset with direction := 0x03 } }) = some (.byte 0x03) := by
  decide +kernel
-- R284, R285 examples, and R286, R287 for timer B
theorem test_talo_read :
    res (.taloR .a) (withCia { Cia.reset with timerA := { Timer.reset with count := 0x1234 } }) = some (.byte 0x34) := by
  decide +kernel
theorem test_tahi_read :
    res (.tahiR .a) (withCia { Cia.reset with timerA := { Timer.reset with count := 0x1234 } }) = some (.byte 0x12) := by
  decide +kernel
theorem test_tblo_read :
    res (.tbloR .a) (withCia { Cia.reset with timerB := { Timer.reset with count := 0x1234 } }) = some (.byte 0x34) := by
  decide +kernel
theorem test_tbhi_read :
    res (.tbhiR .a) (withCia { Cia.reset with timerB := { Timer.reset with count := 0x1234 } }) = some (.byte 0x12) := by
  decide +kernel
-- R288, R290 examples
theorem test_todlo_read :
    got (exec (.todloR .a) (withCia { Cia.reset with
      tod := { value := 0, latch := 0x123456, alarm := 0 }, todLatched := true })) (fun t => (t.result, t.ciaA.todLatched))
      = some (.byte 0x56, false) := by decide +kernel
theorem test_todmid_read :
    res (.todmidR .a) (withCia { Cia.reset with tod := { value := 0x123501, latch := 0, alarm := 0 } })
      = some (.byte 0x35) := by decide +kernel
theorem test_todhi_read :
    got (exec (.todhiR .a) (withCia { Cia.reset with tod := { value := 0x123456, latch := 0, alarm := 0 } }))
      (fun t => (t.result, t.ciaA.tod.latch, t.ciaA.todLatched)) = some (.byte 0x12, 0x123456, true) := by decide +kernel
-- R291, R307
theorem test_register_b : res (.regbR .a) State.reset = some .noValue ∧ exec (.regbW .a 0x55) State.reset = .next State.reset :=
  ⟨by decide +kernel, rfl⟩
-- CI-11
theorem test_sdr :
    res (.sdrR .a) (withCia { Cia.reset with sdr := 0x55 }) = some (.byte 0x55)
      ∧ got (exec (.sdrW .a 0x55) State.reset) (fun t => t.ciaA.sdr) = some 0x55
      ∧ refusal (exec (.sdrW .a 0x55) (withCia { Cia.reset with timerA := { Timer.reset with cr := 0x40 } }))
        = some .ciaSerialOutputNotSpecified := by decide +kernel
-- R293's example
theorem test_icr_read :
    got (exec (.icrR .a) (withCia { Cia.reset with icr := 0x03, irq := true }))
      (fun t => (t.result, t.ciaA.icr, t.ciaA.irq)) = some (.byte 0x83, 0, false) := by decide +kernel
-- R294, R295
theorem test_control_reads :
    res (.craR .a) (withCia { Cia.reset with timerA := { Timer.reset with cr := 0x09 } }) = some (.byte 0x09)
      ∧ res (.crbR .a) (withCia { Cia.reset with timerB := { Timer.reset with cr := 0x80 } }) = some (.byte 0x80) := by
  decide +kernel
-- R296 to R299
theorem test_port_writes :
    got (exec (.praW .a 0xF0) State.reset) (fun t => t.ciaA.portA) = some { register := 0xF0, direction := 0, port := 0 }
      ∧ got (exec (.prbW .b 0xF0) State.reset) (fun t => t.ciaB.portB) = some { register := 0xF0, direction := 0, port := 0 }
      ∧ got (exec (.ddraW .a 0x3C) State.reset) (fun t => t.ciaA.portA) = some { register := 0, direction := 0x3C, port := 0 }
      ∧ got (exec (.ddrbW .b 0x3C) State.reset) (fun t => t.ciaB.portB) = some { register := 0, direction := 0x3C, port := 0 } := by
  decide +kernel
-- R300's example; R301's example
theorem test_talo_write :
    got (exec (.taloW .a 0xFF) (withCia { Cia.reset with timerA := { Timer.reset with latch := 0x1234 } }))
      (fun t => (t.ciaA.timerA.latch, t.ciaA.timerA.count)) = some (0x12FF, 0) := by decide +kernel
theorem test_tahi_write :
    got (exec (.tahiW .a 0x01) (withCia { Cia.reset with timerA := { Timer.reset with latch := 0x0003 } }))
      (fun t => (t.ciaA.timerA.latch, t.ciaA.timerA.count)) = some (0x0103, 0x0103) := by decide +kernel
-- R302; R303 while running (CI-3 for timer B): the count stays
theorem test_tblo_write :
    got (exec (.tbloW .a 0x02) State.reset) (fun t => (t.ciaA.timerA.latch, t.ciaA.timerB.latch)) = some (0, 2) := by
  decide +kernel
theorem test_tbhi_write_running :
    got (exec (.tbhiW .a 0x00) (withCia { Cia.reset with timerB := { Timer.reset with latch := 0x1205, count := 0x1232, cr := 1 } }))
      (fun t => (t.ciaA.timerB.latch, t.ciaA.timerB.count)) = some (0x0005, 0x1232) := by decide +kernel
-- CI-8 and CI-9: counter and alarm writes
theorem test_tod_counter_writes :
    got (exec (.todhiW .b 0x12) State.reset) (fun t => (t.ciaB.tod.value, t.ciaB.todStopped)) = some (0x120000, true)
      ∧ got (exec (.todmidW .a 0x34) (withCia { Cia.reset with tod := { value := 0x120000, latch := 0, alarm := 0 } }))
        (fun t => t.ciaA.tod.value) = some 0x123400
      ∧ got (exec (.todloW .a 0xFE) (withCia { Cia.reset with
          tod := { value := 0x123400, latch := 0, alarm := 0 }, todStopped := true }))
        (fun t => (t.ciaA.tod.value, t.ciaA.todStopped)) = some (0x1234FE, false) := by decide +kernel
theorem test_tod_alarm_write :
    got (exec (.todloW .a 3) (withCia { Cia.reset with timerB := { Timer.reset with cr := 0x80 } }))
      (fun t => (t.ciaA.tod.alarm, t.ciaA.tod.value, t.ciaA.todStopped)) = some (3, 0, false) := by decide +kernel
-- R309's example and CI-2: a pending source raises the line; clearing the mask does not lower it
theorem test_imr_write_raises :
    got (exec (.imrW .a 0x81) (withCia { Cia.reset with icr := 0x01 })) (fun t => (t.ciaA.imr, t.ciaA.irq))
      = some (0x01, true) := by decide +kernel
theorem test_imr_write_keeps_the_line :
    got (exec (.imrW .a 0x01) (withCia { Cia.reset with icr := 0x01, imr := 0x01, irq := true }))
      (fun t => (t.ciaA.imr, t.ciaA.irq)) = some (0x00, true) := by decide +kernel
-- R310's example 0x11 (CI-3), and CI-11's refusals
theorem test_cra_write_loads :
    got (exec (.craW .a 0x11) (withCia { Cia.reset with timerA := { Timer.reset with latch := 5, count := 0x1232 } }))
      (fun t => (t.ciaA.timerA.count, t.ciaA.timerA.cr, t.ciaA.timerA.toggleOutput)) = some (5, 0x01, true) := by
  decide +kernel
theorem test_input_modes_refused :
    refusal (exec (.craW .a 0x20) State.reset) = some .ciaInputModeNotSpecified
      ∧ refusal (exec (.crbW .a 0x40) State.reset) = some .ciaInputModeNotSpecified
      ∧ refusal (exec (.crbW .a 0x20) State.reset) = some .ciaInputModeNotSpecified := by decide +kernel
-- R311's example
theorem test_crb_write :
    got (exec (.crbW .a 0x80) State.reset) (fun t => (t.ciaA.timerB.cr, t.ciaA.timerB.toggleOutput))
      = some (0x80, false) := by decide +kernel
-- CI-1, tick 2; P4, tick 3
theorem test_both_timers_underflow :
    let x := tickCia { Cia.reset with
      imr := 0x03, timerA := { Timer.reset with latch := 1, cr := 1 }, timerB := { Timer.reset with latch := 1, cr := 1 } }
    x.icr = 0x03 ∧ x.irq = true ∧ x.timerA.count = 1 ∧ x.timerB.count = 1 := by decide +kernel
-- R262 in one-shot mode: P4's timer A beside a stopped timer B
theorem test_one_shot_raises_its_interrupt :
    let x := tickCia { Cia.reset with imr := 0x01, timerA := { Timer.reset with cr := 0x09 } }
    x.icr = 0x01 ∧ x.irq = true ∧ x.timerA.running = false := by decide +kernel
theorem test_one_shot_underflow :
    tickTimer { count := 0, latch := 2, cr := 0x09, toggleOutput := true, pulseOutput := false }
      = { count := 0, latch := 2, cr := 0x08, toggleOutput := false, pulseOutput := true } := by decide +kernel
-- CI-10: the wrap reaches the reset alarm
theorem test_tod_wraps :
    let x := pulseTod 24 { Cia.reset with tod := { value := 0xFFFFFF, latch := 0, alarm := 0 } }
    x.tod.value = 0 ∧ x.icr = 0x04 := by decide +kernel
-- R6, R268: with another TOD_BITS the wrap is at its width
theorem test_tod_wraps_at_its_width :
    (pulseTod 8 { Cia.reset with tod := { value := 0xFF, latch := 0, alarm := 5 } }).tod.value = 0
      ∧ (pulseTod 32 { Cia.reset with tod := { value := 0xFFFFFF, latch := 0, alarm := 5 } }).tod.value = 0x1000000 := by
  decide +kernel
-- R273: the data register and its direction, with timer B's toggle over an input PB7
theorem test_port_drive :
    let x := { Cia.reset with
      portA := { register := 0xF0, direction := 0x3C, port := 0xAA }, portB := { register := 0x41, direction := 0x41, port := 0 }
      timerB := { Timer.reset with cr := 0x07, toggleOutput := true } }
    portADrive x = (0xF0, 0x3C) ∧ portBDrive x = (0xC1, 0xC1) := by decide +kernel

/-! ### The Zorro mapper -/

-- ZO-1: the ROM's even bytes 0x00 to 0x16, then an odd offset and 0x40
theorem test_autoconfig_rom :
    (List.range 12).map (fun k => autoconfigRom {} (2 * k))
        = [0xEF, 0x5F, 0xFF, 0xEF, 0x7F, 0xFF, 0xFF, 0xFF, 0xFF, 0x8F, 0x2F, 0x4F]
      ∧ autoconfigRom {} 1 = 0xFF ∧ autoconfigRom {} 0x40 = 0xFF ∧ autoconfigRom {} 0x18 = 0xFF := by decide +kernel
-- ZO-1, the type byte of other boards
theorem test_autoconfig_read :
    res (.autoconfRead 0x0002) { State.reset with cfg := { ({} : Config) with fastRamSize := .k64 } } = some (.byte 0x1F)
      ∧ res (.autoconfRead 0x0002) { State.reset with cfg := { ({} : Config) with fastRamSize := .m8 } } = some (.byte 0x0F) := by
  decide +kernel
-- ZO-4
theorem test_autoconf_base_hi :
    got (exec (.autoconfBaseHi 0x4F) { State.reset with zorro := { fastRamConfigState := 0, fastRamBaseAddress := 0x50000 } })
      (fun t => t.zorro) = some { fastRamConfigState := 1, fastRamBaseAddress := 0x450000 } := by decide +kernel
theorem test_autoconf_base_lo :
    got (exec (.autoconfBaseLo 0x5F) State.reset) (fun t => t.zorro)
      = some { fastRamConfigState := 0, fastRamBaseAddress := 0x50000 } := by decide +kernel
theorem test_autoconf_shutup :
    got (exec (.autoconfShutup 0) State.reset) (fun t => t.zorro.fastRamConfigState) = some 2 := by decide +kernel

/-! ### The host port -/

-- HO-1 and HO-2
theorem test_peek_mirrors :
    res (.peek 0x000100) (withRam 0x100 [0x12]) = some (.byte 0x12)
      ∧ res (.peek 0x180100) (withRam 0x100 [0x12]) = some (.byte 0x12)
      ∧ res (.peek 0x1000100) (withRam 0x100 [0x12]) = some (.byte 0x12) := by decide +kernel
theorem test_peek_unmapped :
    got (exec (.peek 0xBFE000) State.reset) (fun t => (t.result, t.events))
      = some (.unmapped, [.unmapped 0xBFE000 .read]) := by decide +kernel
theorem test_poke_mirror :
    got (exec (.poke 0x0FFFFF 0x77) State.reset) (fun t => t.chipRam) = some [(0x7FFFF, 0x77)] := by decide +kernel
-- HO-3
theorem test_poke_register_refused :
    refusal (exec (.poke 0xDFF096 0x82) State.reset) = some .byteWriteToChipsetRegister := by decide +kernel
-- ZO-3: a soft reset keeps the mapper and RAM, a hard one does not
theorem test_reset_soft :
    got (exec (.reset false) { fastAt 0x200000 with fastRam := [(0, 0x5A)], line := 3 })
      (fun t => (t.line, t.zorro.fastRamConfigState, t.fastRam)) = some (0, 1, [(0, 0x5A)]) := by decide +kernel
theorem test_reset_hard :
    got (exec (.reset true) { fastAt 0x200000 with fastRam := [(0, 0x5A)] }) (fun t => (t.zorro, t.fastRam, t.epoch))
      = some (Zorro.reset, [], 1) := by decide +kernel
-- R348's example
theorem test_snapsize : res .snapsize State.reset = some (.size 1573038) := by decide +kernel
-- R349: one byte too few
theorem test_snapsave_refused : refusal (exec (.snapsave 1573037) State.reset) = some .snapshotBufferTooSmall := by decide +kernel
-- R350's example
theorem test_snapload_empty :
    got (exec (.snapload []) State.reset) (fun t => (t.result, t.events)) = some (.consumed 0, [.snapshotLoadFailure]) := by
  decide +kernel
/-- A machine with two bytes of chip RAM and no board. -/
def tiny : State :=
  { State.reset with cfg := { ({} : Config) with chipRamLog2 := 1, fastRamSize := .noBoard }, chipRam := [(0, 0xAB), (1, 0xCD)] }
-- S7: a snapshot followed by junk
theorem test_snapload_takes_its_own_bytes :
    got (exec (.snapload (encodeState { tiny with line := 7, cycle := 9 } ++ [1, 2, 3])) tiny)
      (fun t => (t.result, t.line, t.cycle, t.chipRam)) = some (.consumed 176, 7, 9, tiny.chipRam) := by decide +kernel
-- L1 of R347 where the divider phase and the TOD need more bytes than their defaults
theorem test_snapload_of_a_wide_machine :
    let wide := { tiny with
      cfg := { tiny.cfg with ciaDivider := 100000, todBits := 32 }, agnus := { Agnus.reset with ciaPhase := 70000 }
      ciaA := { Cia.reset with tod := { value := 0x12345678, latch := 1, alarm := 0xFFFFFFFF } } }
    got (exec (.snapload (encodeState wide)) { tiny with cfg := wide.cfg })
      (fun t => (t.agnus.ciaPhase, t.ciaA.tod.value, t.ciaA.tod.alarm)) = some (70000, 0x12345678, 0xFFFFFFFF) := by
  decide +kernel
-- R6, log 22 and log 23: a configured ROM byte at an odd offset; a register row with an odd base
theorem test_configured_rom_and_odd_register_base :
    res (.peek 0xE80041) { State.reset with cfg := { ({} : Config) with romRows := [(0x41, 0x12)] } } = some (.byte 0x12)
      ∧ res (.peek 0xDFF008) { atPos 0x12 0x34 with cfg := { ({} : Config) with addressMap := [.regs 0xDFF001] } }
        = some (.byte 0x34)
      ∧ res (.peek 0xDFF007) (atPos 0x12 0x34) = some (.byte 0x34) := by decide +kernel
-- R78, log 15: a row of an embedding system; and R76's CIA rows at another spacing
theorem test_other_address_maps :
    let s := { State.reset with cfg := { ({} : Config) with
      addressMap := [.outside 0xF80000 0xFFFFFF, .cia .a 0xA00000 2] } }
    refusal (exec (.peek 0xF80000) s) = some .accessOutsideBlock ∧ refusal (exec (.poke 0xFFFFFF 1) s) = some .accessOutsideBlock
      ∧ regionOf s 0xF7FFFF = .unmapped ∧ regionOf s 0xA00006 = .cia .a 3 := by decide +kernel
-- R111, R124 (b): an address between the Blitter's registers that is not in R110's table is forwarded, during a blit too
-- (log 10); R112: the register beside it is refused
theorem test_regwrite_between_the_blitter_registers :
    got (exec (.regwrite 0x05A 1) blitting) (fun t => t.events) = some [.regWriteOut .host 0x05A 1]
      ∧ refusal (exec (.regwrite 0x060 1) blitting) = some .blitterRegisterWriteWhileBusy := by decide +kernel
-- R345's and R346's examples
theorem test_regwrite : got (exec (.regwrite 0x096 0x8280) State.reset) (fun t => t.agnus.dmacon) = some 0x280 := by decide +kernel
theorem test_regread :
    res (.regread 0x006) (atPos 300 50) = some (.word 0x2C32) ∧ res (.regread 0x180) State.reset = some .unmapped := by
  decide +kernel

/-! ### The step -/

-- log 1, log 4: a Copper word runs inside the very next step
theorem test_step_runs_a_copper_word :
    got (step (State.reset.withFetchWord 32 0x01800F00)) (fun t => (t.events, t.agnus.busOwner, t.requests))
      = some ([.regWriteOut .copper 0x180 0x0F00], some .copper, []) := by decide +kernel
theorem test_step_runs_a_request :
    got (step (State.reset.withFetchWord 9 0x006)) (fun t => (t.result, t.requests)) = some (.word 0, []) := by decide +kernel

/-! ## Witnesses: states that meet the hypotheses of the statements, at the edges of their clauses -/

theorem witness_DecodeReadsBackEveryEncoding :
    (Instr.peek (2 ^ 32 - 1)).wellFormed = true ∧ (Instr.snapsave (2 ^ 64 - 1)).wellFormed = true := by decide
theorem witness_CopperDecodingIsTotal :
    (0xFE : Byte).getLsbD 0 = false ∧ (0x33 : Byte).getLsbD 0 = true ∧ (0x00 : Byte).getLsbD 0 = false
      ∧ (0xFF : Byte).getLsbD 0 = true := by decide
theorem witness_StepRunsTheNextRequest :
    State.reset.requests = [] ∧ dec .host [4] = some .snapsize ∧ Instr.snapsize.byCopper = false
      ∧ dec .copper [0, 1, 0, 0] = some (.wait (beamTargetOf 1 0)) ∧ (Instr.wait (beamTargetOf 1 0)).byCopper = true
      ∧ decode { format := .host, bytes := [] } = .error .truncated
      ∧ decode { format := .regr, bytes := [0, 0] } = .error .noSuchRow
      ∧ 9 ≤ (0x09 : Byte).toNat % 16 ∧ 9 ≤ (0xFF : Byte).toNat % 16 :=
  ⟨rfl, by decide +kernel, rfl, by decide +kernel, rfl, rfl, rfl, by decide, by decide⟩

/-- A reset machine that has a SNAPSIZE to do. -/
def pending (i : Instr) : State := { State.reset with requests := [encode i] }

theorem witness_StepKeepsLegalStates : (pending .snapsize).Inv ∧ ∃ t, step (pending .snapsize) = .next t :=
  ⟨⟨by decide +kernel, by decide +kernel, by decide +kernel⟩, _, rfl⟩
theorem witness_StepKeepsConfiguration : ∃ t, step (pending (.reset true)) = .next t := ⟨_, rfl⟩

/-- An idle machine at a position, in a short or a long frame. -/
def rasterAt (isLong : Bool) (line : BitVec 9) (cycle : BitVec 8) : State :=
  { atPos line cycle with frame := { State.reset.frame with isLongFrame := isLong } }

/-- An idle Copper lets every cycle complete. -/
theorem idle_completes (i : CycleInputs) (s : State) (h : s.cop.active = false) : ∃ t, exec (.advance i) s = .next t :=
  (advanceOneCycle_idle i h).imp fun _ h => h.1

theorem witness_AdvanceMovesTheRaster :
    (∀ s ∈ [rasterAt false 311 225, rasterAt false 310 226, rasterAt true 311 226, rasterAt false 311 226, rasterAt true 312 226],
      ∃ t, exec (.advance quiet) s = .next t)
    ∧ (rasterAt false 311 225).cycle.toNat < 226
    ∧ (rasterAt false 310 226).line.toNat + 1 < numLines (rasterAt false 310 226).frame
    ∧ (rasterAt true 311 226).line.toNat + 1 < numLines (rasterAt true 311 226).frame
    ∧ numLines (rasterAt false 311 226).frame ≤ (rasterAt false 311 226).line.toNat + 1
    ∧ numLines (rasterAt true 312 226).frame ≤ (rasterAt true 312 226).line.toNat + 1 :=
  ⟨fun s hs => idle_completes _ s (by revert s; decide), by decide, by decide, by decide, by decide, by decide⟩
theorem witness_AdvanceRunsTheGrantedOwner :
    (reached quiet (armed [])).agnus.busOwner = some .copper ∧ (reached quiet blitting).agnus.busOwner = some .blitter
      ∧ (reached quiet State.reset).agnus.busOwner = none := by decide +kernel
theorem witness_GrantGoesToTheFirstClaimant : ∃ t, exec (.advance quiet) State.reset = .next t := idle_completes _ _ rfl
theorem witness_NastyMovesOnlyTheCpu :
    globalOrder.Nodup ∧ Owner.cpu ∈ globalOrder ∧ Owner.blitter ∈ globalOrder ∧ [Owner.cpu, .copper].Nodup
      ∧ Owner.blitter ∉ [Owner.cpu, .copper] ∧ [Owner.blitter].Nodup ∧ Owner.cpu ∉ [Owner.blitter] := by decide
theorem witness_BlitterYieldsToCopperAndCpu :
    blitting.cfg.valid = true ∧ grantedOwner quiet blitting = some .blitter
      ∧ .copper ∈ slotTable blitting.cfg blitting.line.toNat blitting.cycle.toNat
      ∧ .cpu ∈ slotTable blitting.cfg blitting.line.toNat blitting.cycle.toNat
      ∧ blitting.agnus.dmacon.getLsbD 10 = false := by decide +kernel
theorem witness_AdvanceClocksTheCias :
    ∃ t, exec (.advance { quiet with todPulseA := true })
      { State.reset with agnus := { Agnus.reset with ciaPhase := 4 } } = .next t := idle_completes _ _ rfl
theorem witness_AdvanceStaysInsideTheChipset :
    ∃ t, exec (.advance quiet) (armed [0x01, 0x80, 0x0F, 0x00]) = .next t ∧ t.events = [.regWriteOut .copper 0x180 0x0F00] :=
  ⟨_, rfl, by decide +kernel⟩
theorem witness_UnclaimedCycleLeavesTheCopper :
    copperClaims (beginCycle quiet State.reset) = false
      ∧ copperClaims (beginCycle quiet (asleep 0x6433 0xFFFE (atPos 100 48))) = false := by decide +kernel

/-- The WAIT of R199 held, the list after it in memory. -/
def sleeper (line : BitVec 9) (cycle : BitVec 8) : State :=
  asleep 0x6433 0xFFFE { withRam 0x1000 [0x01, 0x80, 0x00, 0xF0] with line := line, cycle := cycle }

theorem witness_WaitForLine100Cycle50 :
    (∀ s ∈ [sleeper 99 226, sleeper 100 48, sleeper 100 49, sleeper 255 225],
      s.cop.active = true ∧ s.cop.waiting = true ∧ s.cop.ir1 = 0x6433 ∧ s.cop.lastInstructionWord = 0xFFFE
        ∧ s.agnus.dmacon.getLsbD 9 = true ∧ s.agnus.dmacon.getLsbD 7 = true ∧ (beginCycle quiet s).line.toNat ≤ 255)
    ∧ (beginCycle quiet (sleeper 100 48)).line.toNat = 100 ∧ (beginCycle quiet (sleeper 100 48)).cycle.toNat = 49
    ∧ (reached quiet (sleeper 100 49)).agnus.busOwner = some .copper := by decide +kernel
theorem witness_WaitForLine100Cycle50_granted : ∃ t, exec (.advance quiet) (sleeper 100 49) = .next t := ⟨_, rfl⟩
theorem witness_EndParksTheCopper :
    let s := asleep 0xFFFF 0xFFFE State.reset
    s.cop.waiting = true ∧ s.cop.ir1 = 0xFFFF ∧ s.cop.lastInstructionWord = 0xFFFE := by decide

/-- An idle Copper lets any number of cycles complete. -/
theorem idle_run_completes (is : List CycleInputs) (s : State) (h : s.cop.active = false) : ∃ t, advances is s = .next t := by
  induction is generalizing s with
  | nil => exact ⟨s, rfl⟩
  | cons i is ih =>
    obtain ⟨u, hu, h'⟩ := advanceOneCycle_idle i h
    obtain ⟨t, ht⟩ := ih u h'
    exact ⟨t, by rw [advances, show exec (.advance i) s = .next u from hu]; exact ht⟩

theorem witness_FrameTakes227CyclesPerLine :
    State.reset.line = 0 ∧ State.reset.cycle = 0
      ∧ (∃ t, advances (List.replicate (227 * 312 - 1) quiet) State.reset = .next t)
      ∧ (∃ t, advances (List.replicate (227 * 312) quiet) State.reset = .next t)
      ∧ numLines State.reset.frame = 312 :=
  ⟨rfl, rfl, idle_run_completes _ _ rfl, idle_run_completes _ _ rfl, rfl⟩
theorem witness_InterlaceAlternatesFrameLengths :
    let s := { State.reset with agnus := { Agnus.reset with interlaceEnabled := true } }
    s.agnus.interlaceEnabled = true ∧ s.cop.active = false := by decide
theorem witness_MoveWritesForwardsOrDrops :
    2 * (0x3F : BitVec 8).toNat < State.reset.cfg.copperMinRegSafe.toNat
      ∧ State.reset.cfg.copperMinRegSafe.toNat ≤ 2 * (0x40 : BitVec 8).toNat
      ∧ 2 * (0x1F : BitVec 8).toNat < State.reset.cfg.copperMinRegDanger.toNat
      ∧ State.reset.cfg.copperMinRegDanger.toNat ≤ 2 * (0x20 : BitVec 8).toNat
      ∧ regwRow (2 * (0x40 : BitVec 8).toNat) .copper 5 = some (.cop1lch .copper 5)
      ∧ regwRow (2 * (0xFF : BitVec 8).toNat) .copper 5 = none
      ∧ regwRow (2 * (0x2D : BitVec 8).toNat) .copper 5 = none ∧ blitting.blt.busyFlag = true
      ∧ { blitting with cop := { Copper.reset with cdang := true } }.cfg.copperMinRegDanger.toNat ≤ 2 * (0x2D : BitVec 8).toNat := by
  decide +kernel
theorem witness_IdleCopperIsArmedOnlyByAStrobe :
    ∃ t, step (pending (.regwrite 0x088 0)) = .next t ∧ (pending (.regwrite 0x088 0)).cop.active = false ∧ t.cop.active = true :=
  ⟨_, rfl, rfl, by decide +kernel⟩
theorem witness_CopperCannotLiftItsRestriction :
    0x030 ≤ State.reset.cfg.copperMinRegSafe.toNat ∧ 0x030 ≤ State.reset.cfg.copperMinRegDanger.toNat
      ∧ ∃ t, exec (.advance quiet) (armed [0x00, 0x2E, 0x00, 0x02]) = .next t :=
  ⟨by decide, by decide, _, rfl⟩
theorem witness_blitter_idle :
    State.reset.blt.busyFlag = false ∧ State.reset.blt.control1.getLsbD 0 = false ∧ State.reset.blt.control1.getLsbD 1 = false
      ∧ (1 : Word).getLsbD 0 = true ∧ (2 : Word).getLsbD 1 = true := by decide
theorem witness_BlitterWritesAreRefusedWhileBusy :
    blitting.blt.busyFlag = true ∧ regIndex 0x040 ∈ blitterAddresses ∧ regIndex 0x059 ∈ blitterAddresses
      ∧ regIndex 0x075 ∈ blitterAddresses ∧ regIndex 0x05A ∉ blitterAddresses ∧ regIndex 0x076 ∉ blitterAddresses := by
  decide +kernel
theorem witness_MintermIdentities :
    let s := { State.reset with blt := { Blitter.reset with control0 := 0x0DCA } }
    let t := { State.reset with blt := { Blitter.reset with control0 := 0x01FF } }
    s.blt.control1.getLsbD 3 = false ∧ s.blt.control1.getLsbD 4 = false ∧ s.blt.control0.toNat % 256 = 0xCA
      ∧ s.blt.control0.getLsbD 9 = false ∧ s.blt.holdC = 0 ∧ s.blt.control0.getLsbD 8 = true
      ∧ t.blt.control0.toNat % 256 = 0xFF ∧ t.blt.control0.getLsbD 8 = true := by decide +kernel
theorem witness_FillCountsTheBitsBelow :
    (0x0008 : Word).getLsbD 3 = true ∧ (0x0010 : Word).getLsbD 4 = true
      ∧ { blitting with blt := { blitting.blt with control1 := 0x0008 } }.blt.control1.getLsbD 3 = true
      ∧ blitting.blt.xCounter ≤ 1 ∧ blitting.blt.control0.getLsbD 8 = true := by decide
/-- BLTSIZE from reset: the statements about a whole blit have a blit to speak of. -/
theorem witness_a_blit_starts :
    (∃ t, exec (.bltsize .host 0) State.reset = .next t) ∧ ∃ t, exec (.bltsize .copper 0x0041) State.reset = .next t :=
  ⟨⟨_, rfl⟩, _, rfl⟩
theorem witness_BlitterWordTouchesOnlyItsDestination :
    blitting.blt.control0.getLsbD 8 = true ∧ State.reset.blt.control0.getLsbD 8 = false := by decide +kernel

/-- A running timer that holds its latch. -/
def runningTimer (cr : Byte) : Timer := { Timer.reset with count := 3, latch := 3, cr := cr }

theorem witness_ContinuousTimerPeriod :
    let x := { Cia.reset with timerA := runningTimer 1 }
    let y := { Cia.reset with timerB := runningTimer 1 }
    x.timerA.running = true ∧ x.timerA.oneShotMode = false ∧ x.timerA.count = x.timerA.latch ∧ x.timerB.running = false
      ∧ 3 ≤ x.timerA.latch.toNat
      ∧ y.timerB.running = true ∧ y.timerB.oneShotMode = false ∧ y.timerB.count = y.timerB.latch
      ∧ y.timerA.running = false ∧ 3 ≤ y.timerB.latch.toNat := by decide +kernel
theorem witness_UnderflowStopsOrReloadsTheTimer :
    (runningTimer 9).running = true ∧ (runningTimer 9).oneShotMode = true ∧ (runningTimer 1).running = true
      ∧ (runningTimer 1).oneShotMode = false ∧ (runningTimer 8).running = false
      ∧ ({ Cia.reset with timerA := runningTimer 9, timerB := runningTimer 9 } : Cia).timerB.oneShotMode = true := by decide
theorem witness_TodCountsAndRaisesItsAlarm :
    let x := { Cia.reset with tod := { value := 0xFFFFFF, latch := 0, alarm := 0 } }
    ({ x with todStopped := true } : Cia).todStopped = true ∧ x.todStopped = false
      ∧ x.tod.value < 2 ^ 24
      ∧ (∃ k, k < 1 ∧ (x.tod.value + (k + 1)) % 2 ^ 24 = x.tod.alarm)
      ∧ ¬ ∃ k, k < 0 ∧ (x.tod.value + (k + 1)) % 2 ^ 24 = x.tod.alarm :=
  ⟨rfl, rfl, by decide, ⟨0, by decide, by decide⟩, fun ⟨_, h, _⟩ => by omega⟩
theorem witness_TodReadsDoNotTear : (getCia State.reset .a).todLatched = false := rfl
theorem witness_CiaPortAndLatchWrites :
    (Timer.reset.cr.getLsbD 0 = false) ∧ (runningTimer 3).cr.getLsbD 1 = true ∧ (runningTimer 7).cr.getLsbD 2 = true := by decide
theorem witness_TodWrites :
    24 ≤ State.reset.cfg.todBits ∧ 0xFFFFFF < 2 ^ State.reset.cfg.todBits ∧
    (getCia (withCia { Cia.reset with timerB := { Timer.reset with cr := 0x80 } }) .a).timerB.cr.getLsbD 7 = true
      ∧ (getCia State.reset .a).timerB.cr.getLsbD 7 = false := by decide
theorem witness_MaskAndSerialWrites :
    (getCia (withCia { Cia.reset with timerA := { Timer.reset with cr := 0x40 } }) .a).timerA.cr.getLsbD 6 = true
      ∧ (getCia State.reset .a).timerA.cr.getLsbD 6 = false := by decide
theorem witness_ControlRegisterWrites :
    (0x11 : Byte).getLsbD 5 = false ∧ (0x11 : Byte).getLsbD 6 = false ∧ (0x20 : Byte).getLsbD 5 = true
      ∧ (0x40 : Byte).getLsbD 6 = true := by decide
theorem witness_LineFallsOnlyByItsAcknowledge :
    ∃ t, exec (.icrR .a) (withCia { Cia.reset with irq := true }) = .next t
      ∧ (getCia (withCia { Cia.reset with irq := true }) .a).irq = true ∧ (getCia t .a).irq = false := ⟨_, rfl, rfl, rfl⟩
theorem witness_LineFallsOnlyByItsAcknowledge_peek :
    ∃ t, exec (.peek 0xBFED01) (withCia { Cia.reset with irq := true }) = .next t ∧ (getCia t .a).irq = false
      ∧ regionOf (withCia { Cia.reset with irq := true }) (cpuAddr 0xBFED01) = .cia .a 13 :=
  ⟨_, rfl, by decide +kernel, by decide +kernel⟩
theorem witness_AutoconfigAccesses :
    0 < State.reset.cfg.fastRamSize.bytes ∧ State.reset.zorro.fastRamConfigState = 0 ∧ State.reset.cfg.romRows = []
      ∧ (fastAt 0x200000).zorro.fastRamConfigState ≠ 0 ∧ inFastRam (fastAt 0x200000) 0xE80048 = false
      ∧ inFastRam (fastAt 0xE80000) (0xE80000 + 0xFFFF) = true
      ∧ ({ ({} : Config) with fastRamSize := .noBoard } : Config).fastRamSize.bytes = 0
      ∧ (0x3E : BitVec 16).toNat % 2 = 0 ∧ (0x3E : BitVec 16).toNat < 0x40 ∧ (0x3F : BitVec 16).toNat % 2 = 1
      ∧ 0x40 ≤ (0x40 : BitVec 16).toNat
      ∧ (0x48 : BitVec 16) = 0x48 ∧ (0x4C : BitVec 16) = 0x4C := by decide +kernel
theorem witness_AutoconfigHandshakeMapsFastRam :
    State.reset.cfg.addressMap = defaultAddressMap ∧ 0 < State.reset.cfg.fastRamSize.bytes
      ∧ State.reset.zorro.fastRamConfigState = 0
      ∧ got (exec (.poke 0xE80048 0x20) State.reset) (fun t =>
          (regionOf t (t.zorro.fastRamBaseAddress.toNat + 0), regionOf t (t.zorro.fastRamBaseAddress.toNat + 0xFFFFF)))
        = some (.fastRam 0, .fastRam 0xFFFFF) := by decide +kernel
theorem witness_DefaultMapRegions :
    let s := State.reset
    s.cfg.addressMap = defaultAddressMap
      ∧ regionOf s 0x1FFFFF = .chip 0x7FFFF ∧ regionOf s 0x200000 = .unmapped ∧ regionOf s 0xBFE001 = .cia .a 0
      ∧ regionOf s 0xBFEF01 = .cia .a 15 ∧ regionOf s 0xBFF001 = .unmapped ∧ regionOf s 0xBFDF00 = .cia .b 15 ∧ regionOf s 0xBFD000 = .cia .b 0
      ∧ regionOf s 0xDFF1FF = .reg 0x1FF ∧ regionOf s 0xDFF200 = .unmapped ∧ regionOf s 0xE8FFFF = .autoconfig 0xFFFF
      ∧ regionOf s 0xE90000 = .unmapped ∧ regionOf (fastAt 0x200000) 0x2FFFFF = .fastRam 0xFFFFF
      ∧ regionOf (fastAt 0x200000) 0x300000 = .unmapped := by decide +kernel
/-- The regions at the edges of a row of an embedding system (R78): the premise of the refusals of PEEK and POKE. -/
theorem witness_outside_rows :
    let s := { State.reset with cfg := { ({} : Config) with addressMap := [.outside 0xF80000 0xFFFFFF] } }
    regionOf s 0xF80000 = .outside ∧ regionOf s 0xFFFFFF = .outside ∧ regionOf s 0xF7FFFF ≠ .outside := by decide +kernel
theorem witness_PeekReadsTheSelectedRegion :
    regionOf State.reset 0x1FFFFF = .chip 0x7FFFF ∧ regionOf State.reset 0xBFED01 = .cia .a 13
      ∧ ciarRow 13 .a = some (.icrR .a) ∧ regionOf State.reset 0xBFDB00 = .cia .b 11
      ∧ regionOf State.reset 0xDFF007 = .reg 0x007 ∧ regrRow (regIndex 0x007) = some .vhposr
      ∧ regionOf State.reset 0xDFF000 = .reg 0x000 ∧ regrRow (regIndex 0x000) = none
      ∧ regionOf State.reset 0xE80000 = .autoconfig 0 ∧ regionOf (fastAt 0x200000) 0x200000 = .fastRam 0
      ∧ regionOf State.reset 0xFFFFFF = .unmapped := by decide +kernel
theorem witness_PokeWritesTheSelectedRegion :
    regionOf State.reset 0xBFE001 = .cia .a 0 ∧ ciawRow 0 .a 5 = some (.praW .a 5)
      ∧ regionOf State.reset 0xDFF1FF = .reg 0x1FF ∧ regionOf State.reset 0xE8004C = .autoconfig 0x4C
      ∧ zorrowRow 0x4C 5 = some (.autoconfShutup 5) ∧ zorrowRow 0x4B 5 = none
      ∧ regionOf (fastAt 0x200000) 0x2FFFFF = .fastRam 0xFFFFF ∧ regionOf State.reset 0xBFE000 = .unmapped := by decide +kernel
theorem witness_RegisterBusAccesses :
    regwRow (2 * ((0x097 : RegAddr).toNat / 2)) .host 5 = some (.dmacon .host 5)
      ∧ regwRow (2 * ((0x1FF : RegAddr).toNat / 2)) .host 5 = none ∧ regrRow (2 * ((0x007 : RegAddr).toNat / 2)) = some .vhposr
      ∧ regrRow (2 * ((0x008 : RegAddr).toNat / 2)) = none ∧ State.reset.cfg.addressMap = defaultAddressMap
      ∧ regwRow (2 * ((0x05A : RegAddr).toNat / 2)) .host 5 = none ∧ regwRow (2 * ((0x06F : RegAddr).toNat / 2)) .host 5 = none
      ∧ regwRow (2 * ((0x03E : RegAddr).toNat / 2)) .host 5 = none ∧ regwRow (2 * ((0x076 : RegAddr).toNat / 2)) .host 5 = none
      ∧ (∀ b, MapRow.regs b ∉ [MapRow.fastRam]) ∧ [MapRow.fastRam, .regs 0xFFFFFF, .regs 0] = [.fastRam] ++ .regs 0xFFFFFF :: [.regs 0] :=
  ⟨by decide +kernel, by decide +kernel, by decide +kernel, by decide +kernel, rfl, by decide +kernel, by decide +kernel,
    by decide +kernel, by decide +kernel, by simp, rfl⟩
theorem witness_SnapshotSizeAndSave :
    (encodeState tiny).length = 176 ∧ tiny.frame.sequenceNumber < 2 ^ 64 - 1 ∧ tiny.cfg.ciaDivider ≤ 65536
      ∧ tiny.cfg.todBits = 24 := by decide +kernel
theorem witness_SnapshotRoundTrip : State.reset.Inv ∧ tiny.Inv :=
  ⟨⟨by decide +kernel, by decide +kernel, by decide +kernel⟩, by decide +kernel, by decide +kernel, by decide +kernel⟩
/-- No encoding fits in two bytes: the mapper alone takes five. -/
theorem witness_BadSnapshotChangesNothing (s : State) : ¬ encodeState s <+: [0x00, 0x00] := by
  intro h
  have := h.length_le
  simp [encodeState, putZorro, putBits, bigEndian] at this
  omega
theorem witness_ChipWordsReadBack :
    State.reset.cfg.valid = true ∧ chipAddr State.reset.cfg 0x80001 = chipAddr State.reset.cfg 0
      ∧ chipAddr State.reset.cfg 2 ≠ chipAddr State.reset.cfg 0 ∧ chipAddr State.reset.cfg 0x7FFFF = 0x7FFFE := by decide +kernel

end Sys2Proof.Tests
end

section
/-! PROOFS. Every operation keeps the configuration, the pending requests and the invariant of the machine (10_state.md):
the invariant by named parts, one rule for each way the state is changed, one lemma for each operation that uses the
rules, and the case split over the instructions. -/

namespace Sys2Proof.Machine

/-! ### The invariant by named parts -/

/-- `blitterLegal` with its parts named (10_state.md R37, R38). -/
structure Blitter.Legal (b : Blitter) : Prop where
  width_le : b.width ≤ 64
  height_le : b.height ≤ 1024
  x_le : b.xCounter ≤ 64
  y_le : b.yCounter ≤ 1024
  inFlight : b.busyFlag = true →
    1 ≤ b.xCounter ∧ b.xCounter ≤ b.width ∧ 1 ≤ b.yCounter ∧ b.yCounter ≤ b.height
      ∧ b.firstWordFlag = decide (b.xCounter = b.width) ∧ b.lastWordFlag = decide (b.xCounter = 1)

theorem blitterLegal_iff (b : Blitter) : blitterLegal b = true ↔ b.Legal := by
  constructor
  · intro h
    simp only [blitterLegal, Bool.and_eq_true, decide_eq_true_eq, Bool.or_eq_true, Bool.not_eq_true', beq_iff_eq] at h
    obtain ⟨⟨⟨⟨hw, hh⟩, hx⟩, hy⟩, hidle | ⟨⟨⟨⟨⟨hx1, hxw⟩, hy1⟩, hyh⟩, hfirst⟩, hlast⟩⟩ := h
    · exact ⟨hw, hh, hx, hy, fun hbusy => absurd hbusy (by simp [hidle])⟩
    · exact ⟨hw, hh, hx, hy, fun _ => ⟨hx1, hxw, hy1, hyh, hfirst, hlast⟩⟩
  · intro h
    cases hbusy : b.busyFlag with
    | false => simp [blitterLegal, hbusy, h.width_le, h.height_le, h.x_le, h.y_le]
    | true =>
      obtain ⟨hx1, hxw, hy1, hyh, hfirst, hlast⟩ := h.inFlight hbusy
      simp [blitterLegal, h.width_le, h.height_le, h.x_le, h.y_le, hx1, hxw, hy1, hyh, hfirst, hlast]

/-- `ciaLegal` with its parts named (10_state.md R41, R43, R44, R45). -/
structure Cia.Legal (bits : Nat) (x : Cia) : Prop where
  crA : x.timerA.cr.getLsbD 4 = false
  crB : x.timerB.cr.getLsbD 4 = false
  ssr : x.ssr = 0
  icr : x.icr &&& 0xE0 = 0
  imr : x.imr &&& 0xE0 = 0
  value : x.tod.value < 2 ^ bits
  latch : x.tod.latch < 2 ^ bits
  alarm : x.tod.alarm < 2 ^ bits

theorem ciaLegal_iff (bits : Nat) (x : Cia) : ciaLegal bits x = true ↔ x.Legal bits := by
  simp only [ciaLegal, todLegal, Bool.and_eq_true, Bool.not_eq_true', beq_iff_eq, decide_eq_true_eq]
  exact ⟨fun ⟨⟨⟨⟨⟨ha, hb⟩, hs⟩, hi⟩, hm⟩, ⟨hv, hl⟩, hal⟩ => ⟨ha, hb, hs, hi, hm, hv, hl, hal⟩,
    fun ⟨ha, hb, hs, hi, hm, hv, hl, hal⟩ => ⟨⟨⟨⟨⟨ha, hb⟩, hs⟩, hi⟩, hm⟩, ⟨hv, hl⟩, hal⟩⟩

/-- `zorroLegal` with its parts named (10_state.md R48, 44_zorro.md R326). -/
structure Zorro.Legal (z : Zorro) : Prop where
  state_le : z.fastRamConfigState.toNat ≤ 2
  base : z.fastRamBaseAddress &&& 0xFF00FFFF = 0

theorem zorroLegal_iff (z : Zorro) : zorroLegal z = true ↔ z.Legal := by
  simp only [zorroLegal, Bool.and_eq_true, decide_eq_true_eq, beq_iff_eq]
  exact ⟨fun ⟨hs, hb⟩ => ⟨hs, hb⟩, fun ⟨hs, hb⟩ => ⟨hs, hb⟩⟩

/-- A memory in canonical form inside its size, the two parts of `memoryLegal` for each array. -/
structure Memory.Legal (size : Nat) (m : Memory) : Prop where
  wf : m.wf = true
  below : m.below size = true

/-- `State.Inv` with its parts named. -/
structure State.Legal (s : State) : Prop where
  valid : s.cfg.valid = true
  line_lt : s.line.toNat < numLines s.frame
  cycle_lt : s.cycle.toNat < Config.lineCycles
  phase_lt : s.agnus.ciaPhase < s.cfg.ciaDivider
  blt : s.blt.Legal
  ciaA : s.ciaA.Legal s.cfg.todBits
  ciaB : s.ciaB.Legal s.cfg.todBits
  zorro : s.zorro.Legal
  chipRam : Memory.Legal s.cfg.chipRamSize s.chipRam
  fastRam : Memory.Legal s.cfg.fastRamSize.bytes s.fastRam

theorem inv_iff_legal (s : State) : s.Inv ↔ s.Legal := by
  simp only [State.Inv, fieldsLegal, positionLegal, memoryLegal, Bool.and_eq_true, decide_eq_true_eq, blitterLegal_iff,
    ciaLegal_iff, zorroLegal_iff]
  constructor
  · rintro ⟨hv, ⟨⟨⟨⟨⟨⟨hl, hc⟩, hp⟩, hblt⟩, ha⟩, hb⟩, hz⟩, ⟨⟨hcw, hcb⟩, hfw⟩, hfb⟩
    exact ⟨hv, hl, hc, hp, hblt, ha, hb, hz, ⟨hcw, hcb⟩, ⟨hfw, hfb⟩⟩
  · rintro ⟨hv, hl, hc, hp, hblt, ha, hb, hz, ⟨hcw, hcb⟩, ⟨hfw, hfb⟩⟩
    exact ⟨hv, ⟨⟨⟨⟨⟨⟨hl, hc⟩, hp⟩, hblt⟩, ha⟩, hb⟩, hz⟩, ⟨⟨hcw, hcb⟩, hfw⟩, hfb⟩

/-- What a valid configuration says about the sizes (00_scope.md R6). -/
theorem valid_bounds {cfg : Config} (h : cfg.valid = true) :
    1 ≤ cfg.chipRamLog2 ∧ 0 < cfg.ciaDivider := by
  simp only [Config.valid, Bool.and_eq_true, decide_eq_true_eq] at h
  obtain ⟨⟨⟨⟨-, hchip⟩, -⟩, hdiv⟩, -⟩ := h
  exact ⟨hchip, hdiv⟩

/-! ### The reset values are legal -/

theorem Blitter.reset_legal : Blitter.reset.Legal := (blitterLegal_iff _).1 rfl

theorem Cia.reset_legal (bits : Nat) : Cia.reset.Legal bits :=
  have hpos : 0 < 2 ^ bits := by positivity
  ⟨rfl, rfl, rfl, rfl, rfl, hpos, hpos, hpos⟩

theorem Zorro.reset_legal : Zorro.reset.Legal := (zorroLegal_iff _).1 rfl

theorem reset_line_lt : (0 : BitVec 9).toNat < numLines Frame.reset := by decide

theorem reset_cycle_lt : (0 : BitVec 8).toNat < Config.lineCycles := by decide

theorem Memory.nil_legal (size : Nat) : Memory.Legal size [] := ⟨rfl, rfl⟩

/-! ### What an operation keeps -/

/-- `t` follows `s` with the configuration and the pending requests untouched, and is legal if `s` is. -/
structure Keeps (s t : State) : Prop where
  cfg : t.cfg = s.cfg
  requests : t.requests = s.requests
  legal : s.Legal → t.Legal

theorem Keeps.refl (s : State) : Keeps s s := ⟨rfl, rfl, id⟩

theorem Keeps.trans {s t u : State} (h : Keeps s t) (h' : Keeps t u) : Keeps s u :=
  ⟨h'.cfg.trans h.cfg, h'.requests.trans h.requests, h'.legal ∘ h.legal⟩

/-! ### One rule for each way the state is changed -/

theorem emit_keeps (s : State) (e : Event) : Keeps s (emit s e) := ⟨rfl, rfl, fun h => { h with }⟩

theorem setResult_keeps (s : State) (r : Result) : Keeps s (setResult s r) := ⟨rfl, rfl, fun h => { h with }⟩

theorem raiseUnmapped_keeps (s : State) (a : BitVec 24) (k : AccessKind) : Keeps s (raiseUnmapped s a k) :=
  (emit_keeps s _).trans (setResult_keeps _ _)

theorem withCopper_keeps (s : State) (c : Copper) : Keeps s { s with cop := c } := ⟨rfl, rfl, fun h => { h with }⟩

theorem withBlitter_keeps {s : State} {b : Blitter} (hb : s.blt.Legal → b.Legal) : Keeps s { s with blt := b } :=
  ⟨rfl, rfl, fun h => { h with blt := hb h.blt }⟩

theorem withZorro_keeps {s : State} {z : Zorro} (hz : s.zorro.Legal → z.Legal) : Keeps s { s with zorro := z } :=
  ⟨rfl, rfl, fun h => { h with zorro := hz h.zorro }⟩

/-- Agnus may change in every field but the phase of the CIA divider. -/
theorem withAgnus_keeps {s : State} {a : Agnus} (ha : a.ciaPhase = s.agnus.ciaPhase) : Keeps s { s with agnus := a } :=
  ⟨rfl, rfl, fun h => { h with phase_lt := ha ▸ h.phase_lt }⟩

theorem withCias_keeps {s : State} {x y : Cia} (hx : s.ciaA.Legal s.cfg.todBits → x.Legal s.cfg.todBits)
    (hy : s.ciaB.Legal s.cfg.todBits → y.Legal s.cfg.todBits) : Keeps s { s with ciaA := x, ciaB := y } :=
  ⟨rfl, rfl, fun h => { h with ciaA := hx h.ciaA, ciaB := hy h.ciaB }⟩

theorem updateCia_keeps {s : State} {c : CiaId} {f : Cia → Cia}
    (hf : ∀ x, x.Legal s.cfg.todBits → (f x).Legal s.cfg.todBits) : Keeps s (updateCia s c f) := by
  cases c with
  | a => exact withCias_keeps (hf _) id
  | b => exact withCias_keeps id (hf _)

theorem Memory.Legal.insert {size a : Nat} {m : Memory} {v : Byte} (h : Memory.Legal size m) (ha : a < size) :
    Memory.Legal size (m.insert a v) := ⟨insert_wf h.wf, insert_below h.below ha⟩

theorem setChipByte_keeps {s : State} {a : Nat} (v : Byte) (ha : s.cfg.valid = true → a < s.cfg.chipRamSize) :
    Keeps s (setChipByte s a v) :=
  ⟨rfl, rfl, fun h => { h with chipRam := h.chipRam.insert (ha h.valid) }⟩

theorem setFastByte_keeps {s : State} {a : Nat} (v : Byte) (ha : a < s.cfg.fastRamSize.bytes) :
    Keeps s (setFastByte s a v) :=
  ⟨rfl, rfl, fun h => { h with fastRam := h.fastRam.insert ha }⟩

theorem chipWrite16_keeps (s : State) (p : Long) (v : Word) : Keeps s (chipWrite16 s p v) := by
  have hlt (hv : s.cfg.valid = true) : chipAddr s.cfg p + 1 < s.cfg.chipRamSize :=
    chipAddr_lt s.cfg p (valid_bounds hv).1
  exact (setChipByte_keeps _ fun hv => Nat.lt_of_succ_lt (hlt hv)).trans (setChipByte_keeps _ hlt)

/-! ### The bits that stay 0 (10_state.md R41, R44, R48) -/

theorem and_eq_zero_of_or {w : Nat} {x y m : BitVec w} (hx : x &&& m = 0) (hy : y &&& m = 0) : (x ||| y) &&& m = 0 := by
  rw [BitVec.and_comm, BitVec.and_or_distrib_left, BitVec.and_comm, hx, BitVec.and_comm, hy, BitVec.or_self]

theorem and_eq_zero_of_and {w : Nat} {x y m : BitVec w} (hx : x &&& m = 0) : (x &&& y) &&& m = 0 := by
  rw [BitVec.and_assoc, BitVec.and_comm y, ← BitVec.and_assoc, hx]
  exact BitVec.zero_and

/-- A word whose masked bits are those of a word with none of them set has none of them set. -/
theorem and_eq_zero_of_agree {w : Nat} {x y m : BitVec w} (hx : x &&& m = 0)
    (h : ∀ i, m.getLsbD i = true → y.getLsbD i = x.getLsbD i) : y &&& m = 0 := by
  rw [← hx]
  refine BitVec.eq_of_getLsbD_eq fun i _ => ?_
  simp only [BitVec.getLsbD_and]
  cases hm : m.getLsbD i with
  | false => simp
  | true => rw [h i hm]

/-- Only bits 23 to 16 of the Fast RAM base are outside the mask of the bits that stay 0. -/
theorem baseMask_bits (i : Nat) (h : (0xFF00FFFF : Long).getLsbD i = true) : i < 16 ∨ 24 ≤ i := by
  have hi : i < 32 := BitVec.lt_of_getLsbD h
  have hall : ∀ k : Fin 32, (0xFF00FFFF : Long).getLsbD k = true → (k : Nat) < 16 ∨ 24 ≤ (k : Nat) := by decide
  exact hall ⟨i, hi⟩ h

theorem setBaseHi_legal {base : Long} (v : Byte) (h : base &&& 0xFF00FFFF = 0) :
    setBaseHi base v &&& 0xFF00FFFF = 0 := by
  refine and_eq_zero_of_agree h fun i hi => ?_
  have hlt : i < 32 := BitVec.lt_of_getLsbD hi
  simp only [setBaseHi, BitVec.getLsbD_append, BitVec.getLsbD_extractLsb']
  rcases baseMask_bits i hi with hlow | hhigh
  · simp [show i < 20 by omega]
  · simp [show ¬ i < 20 by omega, show ¬ i - 20 < 4 by omega, show i - 20 - 4 < 8 by omega,
      show 24 + (i - 20 - 4) = i by omega]

theorem setBaseLo_legal {base : Long} (v : Byte) (h : base &&& 0xFF00FFFF = 0) :
    setBaseLo base v &&& 0xFF00FFFF = 0 := by
  refine and_eq_zero_of_agree h fun i hi => ?_
  have hlt : i < 32 := BitVec.lt_of_getLsbD hi
  simp only [setBaseLo, BitVec.getLsbD_append, BitVec.getLsbD_extractLsb']
  rcases baseMask_bits i hi with hlow | hhigh
  · simp [hlow]
  · simp [show ¬ i < 16 by omega, show ¬ i - 16 < 4 by omega, show i - 16 - 4 < 12 by omega,
      show 20 + (i - 16 - 4) = i by omega]

theorem imrAfter_legal {imr : Byte} (v : Byte) (h : imr &&& 0xE0 = 0) : imrAfter imr v &&& 0xE0 = 0 := by
  unfold imrAfter
  split
  · refine and_eq_zero_of_or h ?_
    rw [BitVec.and_assoc]
    exact BitVec.and_zero
  · exact and_eq_zero_of_and h

theorem writeControl_cr (t : Timer) (v : Byte) : (writeControl t v).cr.getLsbD 4 = false := by simp [writeControl]

theorem tickTimer_cr {t : Timer} (h : t.cr.getLsbD 4 = false) : (tickTimer t).cr.getLsbD 4 = false := by
  unfold tickTimer underflowTimer
  split
  · split
    · split
      · simpa using h
      · exact h
    · exact h
  · exact h

/-! ### The CIAs -/

theorem setIcr_legal {bits : Nat} {x : Cia} (b : IcrSource) (h : x.Legal bits) : (setIcr x b).Legal bits := by
  have hmask : b.mask &&& 0xE0 = 0 := by cases b <;> rfl
  exact { h with icr := and_eq_zero_of_or h.icr hmask }

theorem acknowledgeIcr_legal {bits : Nat} {x : Cia} (h : x.Legal bits) : (acknowledgeIcr x).Legal bits :=
  { h with icr := BitVec.zero_and }

theorem latchTod_legal {bits : Nat} {x : Cia} (h : x.Legal bits) : (latchTod x).Legal bits := by
  unfold latchTod
  split
  · exact h
  · exact { h with latch := h.value }

theorem writeImr_legal {bits : Nat} {x : Cia} (v : Byte) (h : x.Legal bits) : (writeImr x v).Legal bits :=
  { h with imr := imrAfter_legal v h.imr }

theorem withAlarm_legal {bits n : Nat} {x : Cia} (hn : n < 2 ^ bits) (h : x.Legal bits) :
    Cia.Legal bits { x with tod := { x.tod with alarm := n } } := { h with alarm := hn }

theorem withCounter_legal {bits n : Nat} {x : Cia} (stopped : Bool) (hn : n < 2 ^ bits) (h : x.Legal bits) :
    Cia.Legal bits { x with tod := { x.tod with value := n }, todStopped := stopped } := { h with value := hn }

theorem writeTodLo_legal {bits : Nat} {x : Cia} (v : Byte) (h : x.Legal bits) : (writeTodLo bits x v).Legal bits := by
  unfold writeTodLo
  split
  · exact withAlarm_legal (setTodByte_lt ..) h
  · exact withCounter_legal _ (setTodByte_lt ..) h

theorem writeTodMid_legal {bits : Nat} {x : Cia} (v : Byte) (h : x.Legal bits) : (writeTodMid bits x v).Legal bits := by
  unfold writeTodMid
  split
  · exact withAlarm_legal (setTodByte_lt ..) h
  · exact withCounter_legal _ (setTodByte_lt ..) h

theorem writeTodHi_legal {bits : Nat} {x : Cia} (v : Byte) (h : x.Legal bits) : (writeTodHi bits x v).Legal bits := by
  unfold writeTodHi
  split
  · exact withAlarm_legal (setTodByte_lt ..) h
  · exact withCounter_legal _ (setTodByte_lt ..) h

theorem tickTimerA_legal {bits : Nat} {x : Cia} (h : x.Legal bits) : (tickTimerA x).Legal bits := by
  have ht : Cia.Legal bits { x with timerA := tickTimer x.timerA } := { h with crA := tickTimer_cr h.crA }
  unfold tickTimerA
  split
  · exact setIcr_legal _ ht
  · exact ht

theorem tickTimerB_legal {bits : Nat} {x : Cia} (h : x.Legal bits) : (tickTimerB x).Legal bits := by
  have ht : Cia.Legal bits { x with timerB := tickTimer x.timerB } := { h with crB := tickTimer_cr h.crB }
  unfold tickTimerB
  split
  · exact setIcr_legal _ ht
  · exact ht

theorem tickCia_legal {bits : Nat} {x : Cia} (h : x.Legal bits) : (tickCia x).Legal bits :=
  tickTimerB_legal (tickTimerA_legal h)

theorem pulseTod_legal {bits : Nat} {x : Cia} (h : x.Legal bits) : (pulseTod bits x).Legal bits := by
  have hcount := withCounter_legal x.todStopped (Nat.mod_lt (x.tod.value + 1) (Nat.two_pow_pos bits)) h
  unfold pulseTod
  split
  · exact h
  · dsimp only
    split
    · exact setIcr_legal _ hcount
    · exact hcount

theorem samplePins_legal {bits : Nat} {x : Cia} (p : CiaPins) (h : x.Legal bits) : (samplePins x p).Legal bits :=
  { h with }

theorem ciaRead_keeps {c : CiaId} {n : Nat} {s t : State} (h : ciaRead c n s = .next t) : Keeps s t :=
  match n, h with
  | 8, h => by
    cases h
    exact (updateCia_keeps (f := fun x => { x with todLatched := false }) fun _ hx => { hx with }).trans
      (setResult_keeps _ _)
  | 10, h => by cases h; exact (updateCia_keeps fun _ hx => latchTod_legal hx).trans (setResult_keeps _ _)
  | 13, h => by cases h; exact (updateCia_keeps fun _ hx => acknowledgeIcr_legal hx).trans (setResult_keeps _ _)
  | 0, h | 1, h | 2, h | 3, h | 4, h | 5, h | 6, h | 7, h | 9, h | 11, h | 12, h | 14, h | 15, h | _ + 16, h => by
    cases h; exact setResult_keeps _ _

theorem execSdrW_keeps {c : CiaId} {v : Byte} {s t : State} (h : execSdrW c v s = .next t) : Keeps s t := by
  unfold execSdrW at h
  split at h <;> cases h
  exact updateCia_keeps fun _ hx => { hx with }

theorem execCraW_keeps {c : CiaId} {v : Byte} {s t : State} (h : execCraW c v s = .next t) : Keeps s t := by
  unfold execCraW at h
  split at h <;> cases h
  exact updateCia_keeps fun _ hx => { hx with crA := writeControl_cr _ v }

theorem execCrbW_keeps {c : CiaId} {v : Byte} {s t : State} (h : execCrbW c v s = .next t) : Keeps s t := by
  unfold execCrbW at h
  split at h <;> cases h
  exact updateCia_keeps fun _ hx => { hx with crB := writeControl_cr _ v }

theorem ciaWrite_keeps {c : CiaId} {n : Nat} {v : Byte} {s t : State} (h : ciaWrite c n v s = .next t) : Keeps s t :=
  match n, h with
  | 0, h | 1, h | 2, h | 3, h | 4, h | 5, h | 6, h | 7, h => by cases h; exact updateCia_keeps fun _ hx => { hx with }
  | 8, h => by cases h; exact updateCia_keeps fun _ hx => writeTodLo_legal v hx
  | 9, h => by cases h; exact updateCia_keeps fun _ hx => writeTodMid_legal v hx
  | 10, h => by cases h; exact updateCia_keeps fun _ hx => writeTodHi_legal v hx
  | 11, h => by cases h; exact .refl s
  | 12, h => execSdrW_keeps h
  | 13, h => by cases h; exact updateCia_keeps fun _ hx => writeImr_legal v hx
  | 14, h => execCraW_keeps h
  | 15, h => execCrbW_keeps h
  | _ + 16, h => by cases h; exact .refl s

/-! ### The Blitter -/

theorem sizeWidth_mem (v : Word) : 1 ≤ sizeWidth v ∧ sizeWidth v ≤ 64 := by
  have := (v.extractLsb' 0 6).isLt
  unfold sizeWidth
  split <;> omega

theorem sizeHeight_mem (v : Word) : 1 ≤ sizeHeight v ∧ sizeHeight v ≤ 1024 := by
  have := (v.extractLsb' 6 10).isLt
  unfold sizeHeight
  split <;> omega

theorem startCounters_legal (b : Blitter) (v : Word) : (startCounters b v).Legal :=
  have ⟨hw1, hw⟩ := sizeWidth_mem v
  have ⟨hh1, hh⟩ := sizeHeight_mem v
  ⟨hw, hh, hw, hh, fun _ => ⟨hw1, le_rfl, hh1, le_rfl, (decide_eq_true rfl).symm, rfl⟩⟩

/-- The counters after a word (42_blitter.md R243): a line that ends reloads the width and may end the blit, any other
word leaves at least one more. -/
theorem stepCounters_legal {b : Blitter} (h : b.Legal) (hbusy : b.busyFlag = true) : (stepCounters b).Legal := by
  obtain ⟨hx1, hxw, hy1, hyh, -, -⟩ := h.inFlight hbusy
  have hy := h.y_le
  have hx := h.x_le
  unfold stepCounters
  split
  · refine ⟨h.width_le, h.height_le, h.width_le, show b.yCounter - 1 ≤ 1024 by omega, fun hmore => ?_⟩
    simp only [Bool.and_eq_true, decide_eq_true_eq] at hmore
    obtain ⟨-, hmore⟩ := hmore
    dsimp only
    exact ⟨by omega, le_rfl, by omega, by omega, (decide_eq_true rfl).symm, rfl⟩
  · refine ⟨h.width_le, h.height_le, show b.xCounter - 1 ≤ 64 by omega, h.y_le, fun _ => ?_⟩
    dsimp only
    exact ⟨by omega, by omega, hy1, hyh, (decide_eq_false (by omega)).symm, rfl⟩

theorem writeDestination_keeps (s : State) (b : Blitter) : Keeps s (writeDestination s b) := by
  unfold writeDestination
  split
  · exact chipWrite16_keeps s _ _
  · exact .refl s

/-- One word of a blit in flight: the sub-steps before the counters leave every field the invariant speaks of. -/
theorem stepOneWord_keeps {s : State} (hbusy : s.blt.busyFlag = true) : Keeps s (stepOneWord s) := by
  have hwords (h : s.blt.Legal) : (stepPointers (combineWord (readSources s))).Legal := { h with }
  refine (writeDestination_keeps s (combineWord (readSources s))).trans (withBlitter_keeps fun h => ?_)
  rw [writeDestination_blt] at h
  exact stepCounters_legal (hwords h) hbusy

/-! ### The chipset register bus and the Copper -/

/-- A write of a Blitter register that leaves the counters and the flags. -/
theorem writeBlitter_keeps {s t : State} {f : Blitter → Blitter} (h : writeBlitter s f = .next t)
    (hf : s.blt.Legal → (f s.blt).Legal) : Keeps s t := by
  obtain ⟨-, rfl⟩ := writeBlitter_next.1 h
  exact withBlitter_keeps hf

theorem execBltsize_keeps {src : Master} {v : Word} {s t : State} (h : execBltsize src v s = .next t) : Keeps s t := by
  obtain ⟨-, -, rfl⟩ := execBltsize_next.1 h
  exact withBlitter_keeps fun _ => startCounters_legal _ v

/-- BLTSIZE starts the counters, the other Blitter registers leave them, and every other address is refused or changes
nothing the invariant speaks of. -/
theorem regWrite_keeps {src : Master} {a : RegAddr} {v : Word} {s t : State} (h : regWrite src a v s = .next t) :
    Keeps s t := by
  unfold regWrite at h
  split at h <;>
    first
    | exact execBltsize_keeps h
    | exact writeBlitter_keeps h fun hb => { hb with }
    | (cases h <;> exact ⟨rfl, rfl, fun hs => { hs with }⟩)

theorem execMove_keeps {ra : BitVec 8} {dw : Word} {s t : State} (h : execMove ra dw s = .next t) : Keeps s t := by
  unfold execMove at h
  split at h
  · exact regWrite_keeps h
  · cases h; exact emit_keeps _ _

theorem execWait_keeps {x : BeamTarget} {s t : State} (h : execWait x s = .next t) : Keeps s t := by
  unfold execWait at h
  split at h <;> cases h
  · exact .refl s
  · exact withCopper_keeps _ _

theorem execSkip_keeps {x : BeamTarget} {s t : State} (h : execSkip x s = .next t) : Keeps s t := by
  unfold execSkip at h
  split at h <;> cases h
  · exact withCopper_keeps _ _
  · exact .refl s

theorem copperTick_keeps {s t : State} (h : copperTick s = .next t) : Keeps s t := by
  have hfetch : Keeps s (copperFetch s) := withCopper_keeps _ _
  refine hfetch.trans ?_
  unfold copperTick at h
  obtain ⟨ra, dw, -, e⟩ | ⟨x, -, e⟩ | ⟨x, -, e⟩ := copperExecute_cases (copperFetch s) <;> rw [e] at h
  · exact execMove_keeps h
  · exact execWait_keeps h
  · exact execSkip_keeps h

/-! ### The cycle -/

theorem numLines_mem (f : Frame) : 312 ≤ numLines f ∧ numLines f ≤ 313 := by
  unfold numLines
  split <;> decide

theorem nextCycle_lt (s : State) : (nextCycle s).toNat < Config.lineCycles := by
  unfold nextCycle
  split
  · rename_i h
    have hc : s.cycle.toNat < 226 := h
    change (s.cycle + 1).toNat < 227
    bv_omega
  · decide

/-- The line reached is a line of the frame reached: only the last line of a frame is left for line 0 of the next. -/
theorem nextLine_lt {s : State} (h : s.line.toNat < numLines s.frame) :
    (nextLine s).toNat < numLines (if wraps s then frameNext s.frame s.agnus.interlaceEnabled else s.frame) := by
  obtain ⟨-, hmax⟩ := numLines_mem s.frame
  unfold nextLine
  split
  · rename_i hc
    simpa only [wraps, hc, decide_true, Bool.not_true, Bool.false_and, Bool.false_eq_true, if_false] using h
  · split
    · rename_i hc hl
      have hsucc : (s.line + 1).toNat = s.line.toNat + 1 := by bv_omega
      simp only [wraps, hl, decide_true, Bool.not_true, Bool.and_false, Bool.false_eq_true, if_false, hsucc]
      omega
    · exact lt_of_lt_of_le (by decide) (numLines_mem _).1

theorem advanceRaster_keeps (s : State) : Keeps s (advanceRaster s) :=
  ⟨rfl, rfl, fun h => { h with line_lt := nextLine_lt h.line_lt, cycle_lt := nextCycle_lt s }⟩

theorem beginCycle_keeps (i : CycleInputs) (s : State) : Keeps s (beginCycle i s) :=
  (withCias_keeps (samplePins_legal i.pinsA) (samplePins_legal i.pinsB)).trans (advanceRaster_keeps _)

theorem arbitrate_keeps (i : CycleInputs) (s : State) : Keeps s (arbitrate i s) := withAgnus_keeps rfl

theorem divideCia_keeps (s : State) : Keeps s (divideCia s) := by
  unfold divideCia
  split
  · exact ⟨rfl, rfl, fun h => { h with
      phase_lt := (valid_bounds h.valid).2, ciaA := tickCia_legal h.ciaA, ciaB := tickCia_legal h.ciaB }⟩
  · rename_i hne
    exact ⟨rfl, rfl, fun h => { h with phase_lt := lt_of_le_of_ne h.phase_lt hne }⟩

theorem deliverTod_keeps (i : CycleInputs) (s : State) : Keeps s (deliverTod i s) := by
  refine withCias_keeps (fun h => ?_) (fun h => ?_) <;> split
  · exact pulseTod_legal h
  · exact h
  · exact pulseTod_legal h
  · exact h

theorem endCycle_keeps (i : CycleInputs) (s : State) : Keeps s (endCycle i s) :=
  (divideCia_keeps s).trans (deliverTod_keeps i _)

/-- A Blitter that is granted the slot has a blit in flight (42_blitter.md R210). -/
theorem busy_of_granted {i : CycleInputs} {s : State} (h : grantedOwner i s = some .blitter) :
    s.blt.busyFlag = true := by
  obtain ⟨hclaims, -⟩ := grantedOwner_some h
  simp only [claims, blitterClaims, Bool.and_eq_true] at hclaims
  exact hclaims.2

theorem advanceOneCycle_keeps {i : CycleInputs} {s t : State} (h : advanceOneCycle i s = .next t) : Keeps s t := by
  obtain ⟨u, hu, rfl⟩ := advanceOneCycle_next.1 h
  have hstart := (beginCycle_keeps i s).trans (arbitrate_keeps i _)
  refine (hstart.trans ?_).trans (endCycle_keeps i u)
  obtain ⟨-, htick⟩ | ⟨howner, rfl⟩ | ⟨-, -, rfl⟩ := ownerCallback_next hu
  · exact copperTick_keeps htick
  · exact stepOneWord_keeps (busy_of_granted howner)
  · exact .refl _

/-! ### The CPU-space regions and the Zorro mapper -/

/-- A region of RAM lies inside the array. -/
def Region.inside (cfg : Config) : Region → Prop
  | .chip offset => offset < cfg.chipRamSize
  | .fastRam offset => offset < cfg.fastRamSize.bytes
  | _ => True

theorem inFastRam_offset_lt {s : State} {a : Nat} (h : inFastRam s a = true) :
    a - s.zorro.fastRamBaseAddress.toNat < s.cfg.fastRamSize.bytes := by
  simp only [inFastRam, Bool.and_eq_true, decide_eq_true_eq] at h
  omega

theorem rowSelects_inside {s : State} {row : MapRow} {a : Nat} {r : Region} (h : rowSelects s row a = some r) :
    r.inside s.cfg := by
  cases row with
  | chip lo hi =>
    obtain ⟨-, ⟨⟩⟩ := Option.ite_none_right_eq_some.1 h
    exact Nat.mod_lt _ (by unfold Config.chipRamSize; positivity)
  | fastRam =>
    obtain ⟨hin, ⟨⟩⟩ := Option.ite_none_right_eq_some.1 h
    exact inFastRam_offset_lt hin
  | cia c base stride => obtain ⟨-, ⟨⟩⟩ := Option.ite_none_right_eq_some.1 h; trivial
  | regs base => obtain ⟨-, ⟨⟩⟩ := Option.ite_none_right_eq_some.1 h; trivial
  | autoconfig base => obtain ⟨-, ⟨⟩⟩ := Option.ite_none_right_eq_some.1 h; trivial
  | outside lo hi => obtain ⟨-, ⟨⟩⟩ := Option.ite_none_right_eq_some.1 h; trivial

theorem firstRegion_inside (s : State) (rows : List MapRow) (a : Nat) : (firstRegion s rows a).inside s.cfg := by
  induction rows with
  | nil => trivial
  | cons row rest ih =>
    unfold firstRegion
    split
    · rename_i hrow; exact rowSelects_inside hrow
    · exact ih

theorem regionOf_inside (s : State) (a : Nat) : (regionOf s a).inside s.cfg := firstRegion_inside s _ a

theorem writeUnmappedWindow_keeps (s : State) (off : BitVec 16) (v : Byte) : Keeps s (writeUnmappedWindow s off v) := by
  unfold writeUnmappedWindow
  split
  · rename_i hin; exact setFastByte_keeps v (inFastRam_offset_lt hin)
  · exact raiseUnmapped_keeps _ _ _

theorem execAutoconfRead_keeps {off : BitVec 16} {s t : State} (h : execAutoconfRead off s = .next t) : Keeps s t := by
  unfold execAutoconfRead at h
  split at h
  · cases h; exact setResult_keeps _ _
  · split at h <;> cases h
    · exact setResult_keeps _ _
    · exact raiseUnmapped_keeps _ _ _

theorem execAutoconfBaseHi_keeps {v : Byte} {s t : State} (h : execAutoconfBaseHi v s = .next t) : Keeps s t := by
  unfold execAutoconfBaseHi at h
  split at h <;> cases h
  · exact withZorro_keeps fun hz => ⟨(by decide : (1 : Byte).toNat ≤ 2), setBaseHi_legal v hz.base⟩
  · exact writeUnmappedWindow_keeps _ _ _

theorem execAutoconfBaseLo_keeps {v : Byte} {s t : State} (h : execAutoconfBaseLo v s = .next t) : Keeps s t := by
  unfold execAutoconfBaseLo at h
  split at h <;> cases h
  · exact withZorro_keeps fun hz => { hz with base := setBaseLo_legal v hz.base }
  · exact writeUnmappedWindow_keeps _ _ _

theorem execAutoconfShutup_keeps {v : Byte} {s t : State} (h : execAutoconfShutup v s = .next t) : Keeps s t := by
  unfold execAutoconfShutup at h
  split at h <;> cases h
  · exact withZorro_keeps fun hz => { hz with state_le := (by decide : (2 : Byte).toNat ≤ 2) }
  · exact writeUnmappedWindow_keeps _ _ _

theorem autoconfigWrite_keeps {off : BitVec 16} {v : Byte} {s t : State} (h : autoconfigWrite off v s = .next t) :
    Keeps s t := by
  unfold autoconfigWrite at h
  split at h
  · exact execAutoconfBaseHi_keeps h
  · exact execAutoconfBaseLo_keeps h
  · exact execAutoconfShutup_keeps h
  · cases h; exact .refl s

/-! ### The host operations -/

theorem execReset_keeps {hard : Bool} {s t : State} (h : execReset hard s = .next t) : Keeps s t := by
  cases h
  refine ⟨rfl, rfl, fun h => ?_⟩
  have hram : Memory.Legal s.cfg.chipRamSize (if hard then [] else s.chipRam)
      ∧ Memory.Legal s.cfg.fastRamSize.bytes (if hard then [] else s.fastRam)
      ∧ (if hard then Zorro.reset else s.zorro).Legal := by
    cases hard with
    | false => exact ⟨h.chipRam, h.fastRam, h.zorro⟩
    | true => exact ⟨Memory.nil_legal _, Memory.nil_legal _, Zorro.reset_legal⟩
  obtain ⟨hchip, hfast, hzorro⟩ := hram
  exact { valid := h.valid, line_lt := reset_line_lt, cycle_lt := reset_cycle_lt, phase_lt := (valid_bounds h.valid).2,
          blt := Blitter.reset_legal, ciaA := Cia.reset_legal _, ciaB := Cia.reset_legal _, zorro := hzorro,
          chipRam := hchip, fastRam := hfast }

theorem orUnmapped_keeps {o : Out} {s t : State} {a : Nat} (ho : ∀ u, o = .next u → Keeps s u)
    (h : orUnmapped o s a = .next t) : Keeps s t := by
  cases o with
  | next u =>
    unfold orUnmapped at h
    dsimp only at h
    split at h <;> cases h
    · exact raiseUnmapped_keeps _ _ _
    · exact ho _ rfl
  | fault r => cases h
  | refused r => cases h

theorem readRegion_keeps {r : Region} {a : Nat} {s t : State} (h : readRegion r a s = .next t) : Keeps s t := by
  cases r with
  | chip offset => cases h; exact setResult_keeps _ _
  | cia c n => exact orUnmapped_keeps (fun _ => ciaRead_keeps) h
  | reg r =>
    unfold readRegion at h
    dsimp only at h
    split at h <;> cases h
    · exact setResult_keeps _ _
    · exact raiseUnmapped_keeps _ _ _
  | autoconfig off => cases h; exact setResult_keeps _ _
  | fastRam offset => cases h; exact setResult_keeps _ _
  | unmapped => cases h; exact raiseUnmapped_keeps _ _ _
  | outside => cases h

theorem writeRegion_keeps {r : Region} {a : Nat} {v : Byte} {s t : State} (hr : r.inside s.cfg)
    (h : writeRegion r a v s = .next t) : Keeps s t := by
  cases r with
  | chip offset => cases h; exact setChipByte_keeps v fun _ => hr
  | cia c n => exact ciaWrite_keeps h
  | reg r => cases h
  | autoconfig off => exact autoconfigWrite_keeps h
  | fastRam offset => cases h; exact setFastByte_keeps v hr
  | unmapped => cases h; exact raiseUnmapped_keeps _ _ _
  | outside => cases h

theorem execSnapsave_keeps {cap : Nat} {s t : State} (h : execSnapsave cap s = .next t) : Keeps s t := by
  unfold execSnapsave at h
  split at h <;> cases h
  exact setResult_keeps _ _

theorem execRegread_keeps {a : RegAddr} {s t : State} (h : execRegread a s = .next t) : Keeps s t := by
  unfold execRegread at h
  split at h <;> cases h
  · exact setResult_keeps _ _
  · exact raiseUnmapped_keeps _ _ _

/-! ### Loading a snapshot -/

theorem getBytes_length {k : Nat} {bs xs rest : List Byte} (h : getBytes k bs = some (xs, rest)) : xs.length = k := by
  unfold getBytes at h
  obtain ⟨hk, h⟩ := Option.ite_none_right_eq_some.1 h
  cases h
  exact List.length_take_of_le hk

theorem Memory.ofBytes_legal {size : Nat} {bs : List Byte} (h : bs.length = size) :
    Memory.Legal size (Memory.ofBytes 0 bs) := by
  subst h
  exact ⟨ofBytes_wf 0 bs, by simpa using ofBytes_below 0 bs⟩

/-- What is not in a snapshot stays (45_host.md R347), and both RAM arrays are read whole. -/
theorem getState_some {s t : State} {bs rest : List Byte} (h : getState s bs = some (t, rest)) :
    t.cfg = s.cfg ∧ t.requests = s.requests ∧ Memory.Legal s.cfg.chipRamSize t.chipRam
      ∧ Memory.Legal s.cfg.fastRamSize.bytes t.fastRam := by
  unfold getState at h
  iterate 10 obtain ⟨⟨_, _⟩, -, h⟩ := Option.bind_eq_some_iff.1 h
  obtain ⟨⟨chip, _⟩, hchip, h⟩ := Option.bind_eq_some_iff.1 h
  obtain ⟨⟨fast, _⟩, hfast, h⟩ := Option.bind_eq_some_iff.1 h
  cases h
  exact ⟨rfl, rfl, Memory.ofBytes_legal (getBytes_length hchip), Memory.ofBytes_legal (getBytes_length hfast)⟩

/-- A buffer that decodes gives a legal state of the same machine: `decodeState` rejects fields out of range (log 12). -/
theorem decodeState_keeps {s t : State} {bs : List Byte} {n : Nat} (h : decodeState s bs = some (t, n)) : Keeps s t := by
  unfold decodeState at h
  split at h
  · rename_i hget
    obtain ⟨hfields, h⟩ := Option.ite_none_right_eq_some.1 h
    cases h
    obtain ⟨hcfg, hreq, hchip, hfast⟩ := getState_some hget
    refine ⟨hcfg, hreq, fun hs => (inv_iff_legal _).1 ⟨hcfg ▸ hs.valid, hfields, ?_⟩⟩
    simp [memoryLegal, hcfg, hchip.wf, hchip.below, hfast.wf, hfast.below]
  · cases h

theorem execSnapload_keeps {bs : List Byte} {s t : State} (h : execSnapload bs s = .next t) : Keeps s t := by
  unfold execSnapload at h
  split at h <;> cases h
  · rename_i hdec; exact (decodeState_keeps hdec).trans (setResult_keeps _ _)
  · exact (emit_keeps _ _).trans (setResult_keeps _ _)

/-! ### Every instruction -/

/-- The meanings an instruction can have: an operation of its own, or an access of one of the buses. -/
inductive Meaning : (State → Out) → Prop where
  | move (ra : BitVec 8) (dw : Word) : Meaning (execMove ra dw)
  | wait (x : BeamTarget) : Meaning (execWait x)
  | skip (x : BeamTarget) : Meaning (execSkip x)
  | reset (hard : Bool) : Meaning (execReset hard)
  | advance (i : CycleInputs) : Meaning (advanceOneCycle i)
  | peek (addr : Nat) : Meaning (execPeek addr)
  | poke (addr : Nat) (v : Byte) : Meaning (execPoke addr v)
  | snapsave (cap : Nat) : Meaning (execSnapsave cap)
  | snapload (bs : List Byte) : Meaning (execSnapload bs)
  | regread (a : RegAddr) : Meaning (execRegread a)
  /-- SNAPSIZE and the reads of DMACONR, VPOSR and VHPOSR -/
  | result (f : State → Result) : Meaning (fun s => .next (setResult s (f s)))
  | regWrite (src : Master) (a : RegAddr) (v : Word) : Meaning (regWrite src a v)
  | ciaRead (c : CiaId) (n : Nat) : Meaning (ciaRead c n)
  | ciaWrite (c : CiaId) (n : Nat) (v : Byte) : Meaning (ciaWrite c n v)
  | autoconfRead (off : BitVec 16) : Meaning (execAutoconfRead off)
  | autoconfWrite (off : BitVec 16) (v : Byte) : Meaning (autoconfigWrite off v)

/-- The register, CIA and autoconfig rows are the accesses of their buses at the addresses of 30_encoding.md R110, R118
and R122. -/
theorem meaning_exec (i : Instr) : Meaning (exec i) := by
  cases i with
  | move ra dw => exact .move ra dw
  | wait x => exact .wait x
  | skip x => exact .skip x
  | reset hard => exact .reset hard
  | advance inputs => exact .advance inputs
  | peek addr => exact .peek addr
  | poke addr v => exact .poke addr v
  | snapsize => exact .result fun s => .size (snapshotSize s)
  | snapsave cap => exact .snapsave cap
  | snapload buffer => exact .snapload buffer
  | regwrite a v => exact .regWrite .host a v
  | regread a => exact .regread a
  | dmaconr => exact .result fun s => .word (dmaconrValue s)
  | vposr => exact .result fun s => .word (vposrValue s)
  | vhposr => exact .result fun s => .word (vhposrValue s)
  | vposw src v => exact .regWrite src 0x02A v
  | vhposw src v => exact .regWrite src 0x02C v
  | copcon src v => exact .regWrite src 0x02E v
  | bltcon0 src v => exact .regWrite src 0x040 v
  | bltcon1 src v => exact .regWrite src 0x042 v
  | bltafwm src v => exact .regWrite src 0x044 v
  | bltalwm src v => exact .regWrite src 0x046 v
  | bltcpth src v => exact .regWrite src 0x048 v
  | bltcptl src v => exact .regWrite src 0x04A v
  | bltbpth src v => exact .regWrite src 0x04C v
  | bltbptl src v => exact .regWrite src 0x04E v
  | bltapth src v => exact .regWrite src 0x050 v
  | bltaptl src v => exact .regWrite src 0x052 v
  | bltdpth src v => exact .regWrite src 0x054 v
  | bltdptl src v => exact .regWrite src 0x056 v
  | bltsize src v => exact .regWrite src 0x058 v
  | bltcmod src v => exact .regWrite src 0x060 v
  | bltbmod src v => exact .regWrite src 0x062 v
  | bltamod src v => exact .regWrite src 0x064 v
  | bltdmod src v => exact .regWrite src 0x066 v
  | bltcdat src v => exact .regWrite src 0x070 v
  | bltbdat src v => exact .regWrite src 0x072 v
  | bltadat src v => exact .regWrite src 0x074 v
  | cop1lch src v => exact .regWrite src 0x080 v
  | cop1lcl src v => exact .regWrite src 0x082 v
  | cop2lch src v => exact .regWrite src 0x084 v
  | cop2lcl src v => exact .regWrite src 0x086 v
  | copjmp1 src v => exact .regWrite src 0x088 v
  | copjmp2 src v => exact .regWrite src 0x08A v
  | dmacon src v => exact .regWrite src 0x096 v
  | bplcon0 src v => exact .regWrite src 0x100 v
  | praR c => exact .ciaRead c 0x0
  | prbR c => exact .ciaRead c 0x1
  | ddraR c => exact .ciaRead c 0x2
  | ddrbR c => exact .ciaRead c 0x3
  | taloR c => exact .ciaRead c 0x4
  | tahiR c => exact .ciaRead c 0x5
  | tbloR c => exact .ciaRead c 0x6
  | tbhiR c => exact .ciaRead c 0x7
  | todloR c => exact .ciaRead c 0x8
  | todmidR c => exact .ciaRead c 0x9
  | todhiR c => exact .ciaRead c 0xA
  | regbR c => exact .ciaRead c 0xB
  | sdrR c => exact .ciaRead c 0xC
  | icrR c => exact .ciaRead c 0xD
  | craR c => exact .ciaRead c 0xE
  | crbR c => exact .ciaRead c 0xF
  | praW c v => exact .ciaWrite c 0x0 v
  | prbW c v => exact .ciaWrite c 0x1 v
  | ddraW c v => exact .ciaWrite c 0x2 v
  | ddrbW c v => exact .ciaWrite c 0x3 v
  | taloW c v => exact .ciaWrite c 0x4 v
  | tahiW c v => exact .ciaWrite c 0x5 v
  | tbloW c v => exact .ciaWrite c 0x6 v
  | tbhiW c v => exact .ciaWrite c 0x7 v
  | todloW c v => exact .ciaWrite c 0x8 v
  | todmidW c v => exact .ciaWrite c 0x9 v
  | todhiW c v => exact .ciaWrite c 0xA v
  | regbW c v => exact .ciaWrite c 0xB v
  | sdrW c v => exact .ciaWrite c 0xC v
  | imrW c v => exact .ciaWrite c 0xD v
  | craW c v => exact .ciaWrite c 0xE v
  | crbW c v => exact .ciaWrite c 0xF v
  | autoconfRead off => exact .autoconfRead off
  | autoconfBaseHi v => exact .autoconfWrite 0x48 v
  | autoconfBaseLo v => exact .autoconfWrite 0x4A v
  | autoconfShutup v => exact .autoconfWrite 0x4C v

theorem Meaning.keeps {f : State → Out} {s t : State} (hf : Meaning f) (h : f s = .next t) : Keeps s t := by
  cases hf with
  | move ra dw => exact execMove_keeps h
  | wait x => exact execWait_keeps h
  | skip x => exact execSkip_keeps h
  | reset hard => exact execReset_keeps h
  | advance i => exact advanceOneCycle_keeps h
  | peek addr => exact readRegion_keeps h
  | poke addr v => exact writeRegion_keeps (regionOf_inside s _) h
  | snapsave cap => exact execSnapsave_keeps h
  | snapload bs => exact execSnapload_keeps h
  | regread a => exact execRegread_keeps h
  | result f => cases h; exact setResult_keeps _ _
  | regWrite src a v => exact regWrite_keeps h
  | ciaRead c n => exact ciaRead_keeps h
  | ciaWrite c n v => exact ciaWrite_keeps h
  | autoconfRead off => exact execAutoconfRead_keeps h
  | autoconfWrite off v => exact autoconfigWrite_keeps h

theorem exec_keeps {i : Instr} {s t : State} (h : exec i s = .next t) : Keeps s t := (meaning_exec i).keeps h

/-! ### The step -/

theorem enterOperation_legal {s : State} (h : s.Legal) : (enterOperation s).Legal := { h with }

/-- A step that completes is the idle step, or one instruction from the state that has taken its request off the list. -/
theorem step_next {s t : State} (h : step s = .next t) :
    (s.requests = [] ∧ t = s) ∨ ∃ i, exec i (enterOperation s) = .next t := by
  cases hreq : s.requests with
  | nil =>
    unfold step at h
    rw [fetch_nil hreq] at h
    cases h
    exact .inl ⟨rfl, rfl⟩
  | cons e rest =>
    unfold step at h
    rw [fetch_cons hreq] at h
    cases hacc : acceptRequest e with
    | error r => rw [hacc] at h; cases h
    | ok i => rw [hacc] at h; exact .inr ⟨i, h⟩

/-- Settles O5: every operation keeps the parts of the invariant (`exec_keeps`), and taking the request off the list
touches none of them. -/
theorem stepKeepsLegalStates : Obligations.StepKeepsLegalStates := by
  intro s t hs h
  rw [inv_iff_legal] at hs ⊢
  obtain ⟨-, rfl⟩ | ⟨i, hi⟩ := step_next h
  · exact hs
  · exact (exec_keeps hi).legal (enterOperation_legal hs)

/-- Settles O7: no operation changes the configuration or the pending requests (`exec_keeps`); the step itself takes the
head off the list. -/
theorem stepKeepsConfiguration : Obligations.StepKeepsConfiguration := by
  intro s t h
  obtain ⟨hnil, rfl⟩ | ⟨i, hi⟩ := step_next h
  · exact ⟨rfl, by rw [hnil]; rfl⟩
  · exact ⟨(exec_keeps hi).cfg, (exec_keeps hi).requests⟩

/-- The default configuration is valid: `UNIFORM` lists every owner once, with the Blitter last (40_agnus.md R142). -/
theorem default_valid : ({} : Config).valid = true := by decide

/-- Settles O6: the default configuration is valid, and every part of the machine has a legal reset value. -/
theorem resetStateIsLegal : Obligations.ResetStateIsLegal :=
  (inv_iff_legal _).2
    { valid := default_valid, line_lt := reset_line_lt, cycle_lt := reset_cycle_lt, phase_lt := by decide,
      blt := Blitter.reset_legal, ciaA := Cia.reset_legal _, ciaB := Cia.reset_legal _, zorro := Zorro.reset_legal,
      chipRam := Memory.nil_legal _, fastRam := Memory.nil_legal _ }

/-- A soft reset leaves the contents of RAM: neither array nor the number of hard resets changes (10_state.md R60). -/
theorem execReset_soft_ram {s t : State} (h : execReset false s = .next t) (a : Nat) :
    chipByte t a = chipByte s a ∧ fastByte t a = fastByte s a := by
  cases h; exact ⟨rfl, rfl⟩

/-- Settles O8: RESET's next state, by the kind of reset. -/
theorem resetSetsEveryField : Obligations.ResetSetsEveryField := by
  intro hard s
  cases hard with
  | false =>
    refine ⟨_, rfl, rfl, rfl, rfl, rfl, rfl, rfl, rfl, rfl, nofun, fun _ => ⟨rfl, ?_, ?_⟩, rfl, rfl, rfl, rfl⟩
    · exact fun a => (execReset_soft_ram rfl a).1
    · exact fun a => (execReset_soft_ram rfl a).2
  | true => exact ⟨_, rfl, rfl, rfl, rfl, rfl, rfl, rfl, rfl, rfl, fun _ => rfl, nofun, rfl, rfl, rfl, rfl⟩

end Sys2Proof.Machine
end

section
/-! PROOFS. Memory (20_memory.md): chip RAM words through a pointer (R73, R74), and what an address of the default map
selects (R76, R77): when each kind of row matches, and the first row that does. -/

namespace Sys2Proof.Machine

/-! ### Chip RAM words -/

theorem wordHi_toNat (v : Word) : (wordHi v).toNat = v.toNat / 256 := by
  have := v.isLt
  simp only [wordHi, BitVec.extractLsb'_toNat, Nat.shiftRight_eq_div_pow]
  omega

theorem wordLo_toNat (v : Word) : (wordLo v).toNat = v.toNat % 256 := by simp [wordLo]

/-- Clearing bit 0 rounds down to even. -/
theorem and_not_one_toNat (x : Long) : (x &&& ~~~1#32).toNat = x.toNat / 2 * 2 := by
  have hshift : x &&& ~~~1#32 = x >>> 1 <<< 1 := by
    ext i hi
    cases i with
    | zero => simp
    | succ i => simp [-BitVec.reduceNot, BitVec.getElem_one, BitVec.getLsbD_eq_getElem hi, Nat.add_comm 1 i]
  have := x.isLt
  rw [hshift, BitVec.toNat_shiftLeft, BitVec.toNat_ushiftRight, Nat.shiftLeft_eq, Nat.shiftRight_eq_div_pow]
  omega

/-- The pointer modulo the size is its masking by the size less 1, the size being a power of two (R72). -/
theorem and_chipRamSize_sub_one_toNat {cfg : Config} (h : cfg.valid = true) (p : Long) :
    (p &&& BitVec.ofNat 32 (cfg.chipRamSize - 1)).toNat = p.toNat % cfg.chipRamSize := by
  have hsize : cfg.chipRamSize < 2 ^ 32 := by
    simp only [Config.valid, Bool.and_eq_true, decide_eq_true_eq] at h
    obtain ⟨⟨⟨-, hlog⟩, -⟩, -⟩ := h
    exact Nat.pow_lt_pow_right (by omega) (by omega)
  rw [BitVec.toNat_and, BitVec.toNat_ofNat, Nat.mod_eq_of_lt (by omega), Config.chipRamSize,
    Nat.and_two_pow_sub_one_eq_mod]

theorem chipAddr_eq_masked {cfg : Config} (h : cfg.valid = true) (p : Long) :
    chipAddr cfg p = (p &&& BitVec.ofNat 32 (cfg.chipRamSize - 1) &&& ~~~1#32).toNat := by
  rw [and_not_one_toNat, and_chipRamSize_sub_one_toNat h, chipAddr]

theorem chipRead16_chipWrite16_same (s : State) {p q : Long} (v : Word) (h : chipAddr s.cfg q = chipAddr s.cfg p) :
    chipRead16 (chipWrite16 s p v) q = v := by
  simp [chipRead16, chipByte_chipWrite16, h]

/-- Reduced addresses are even, so two that differ select words without a common byte. -/
theorem chipRead16_chipWrite16_ne (s : State) {p q : Long} (v : Word) (h : chipAddr s.cfg q ≠ chipAddr s.cfg p) :
    chipRead16 (chipWrite16 s p v) q = chipRead16 s q := by
  have hp := chipAddr_even s.cfg p
  have hq := chipAddr_even s.cfg q
  have hcross : chipAddr s.cfg q ≠ chipAddr s.cfg p + 1 := by omega
  have hcross' : chipAddr s.cfg q + 1 ≠ chipAddr s.cfg p := by omega
  simp [chipRead16, chipByte_chipWrite16, h, hcross, hcross']

/-- Settles O60: the pointer's reduction is a masking, and the two bytes of a word write are all it changes
(`chipByte_chipWrite16`). -/
theorem chipWordsReadBack : Obligations.ChipWordsReadBack := by
  intro s p q v
  refine ⟨fun hvalid => ⟨chipAddr_eq_masked hvalid p, chipAddr_lt s.cfg p (valid_bounds hvalid).1⟩,
    chipRead16_chipWrite16_same s v, chipRead16_chipWrite16_ne s v, ?_, ?_⟩
  · simp [chipByte_chipWrite16, wordHi_toNat]
  · simp [chipByte_chipWrite16, wordLo_toNat]

/-! ### When a row of the address map matches -/

theorem autoconfigMapped_iff (s : State) :
    autoconfigMapped s = true ↔ 0 < s.cfg.fastRamSize.bytes ∧ s.zorro.fastRamConfigState = 0 := by
  simp [autoconfigMapped]

theorem inFastRam_iff (s : State) (a : Nat) :
    inFastRam s a = true ↔ s.zorro.fastRamConfigState = 1 ∧ s.zorro.fastRamBaseAddress.toNat ≤ a
      ∧ a < s.zorro.fastRamBaseAddress.toNat + s.cfg.fastRamSize.bytes := by
  simp [inFastRam, and_assoc]

section
variable {s : State} {a lo hi base stride : Nat}

theorem rowSelects_chip (hlo : lo ≤ a) (hhi : a ≤ hi) :
    rowSelects s (.chip lo hi) a = some (.chip (a % s.cfg.chipRamSize)) := if_pos ⟨hlo, hhi⟩

theorem rowSelects_chip_above (h : hi < a) : rowSelects s (.chip lo hi) a = none :=
  if_neg fun ⟨_, hhi⟩ => by omega

theorem rowSelects_cia {n : Nat} (c : CiaId) (hstride : 0 < stride) (hn : n < 16) :
    rowSelects s (.cia c base stride) (base + stride * n) = some (.cia c n) := by
  simp [rowSelects, Nat.mul_div_cancel_left n hstride, hn]

theorem rowSelects_cia_none {c : CiaId} (h : ∀ n, n < 16 → a ≠ base + stride * n) :
    rowSelects s (.cia c base stride) a = none := by
  refine if_neg fun ⟨hbase, hmod, hn⟩ => h _ hn ?_
  have := Nat.mul_div_cancel' (Nat.dvd_of_mod_eq_zero hmod)
  omega

theorem rowSelects_regs (hlo : base ≤ a) (hhi : a < base + 0x200) :
    rowSelects s (.regs base) a = some (.reg (BitVec.ofNat 9 (a - base))) := if_pos ⟨hlo, hhi⟩

theorem rowSelects_regs_none (h : a < base ∨ base + 0x200 ≤ a) : rowSelects s (.regs base) a = none :=
  if_neg fun ⟨_, _⟩ => by omega

theorem rowSelects_autoconfig (hlo : base ≤ a) (hhi : a < base + 0x10000) (hfit : 0 < s.cfg.fastRamSize.bytes)
    (hstate : s.zorro.fastRamConfigState = 0) :
    rowSelects s (.autoconfig base) a = some (.autoconfig (BitVec.ofNat 16 (a - base))) :=
  if_pos ⟨hlo, hhi, (autoconfigMapped_iff s).2 ⟨hfit, hstate⟩⟩

theorem rowSelects_autoconfig_none
    (h : a < base ∨ base + 0x10000 ≤ a ∨ s.cfg.fastRamSize.bytes = 0 ∨ s.zorro.fastRamConfigState ≠ 0) :
    rowSelects s (.autoconfig base) a = none := by
  refine if_neg fun ⟨hlo, hhi, hmapped⟩ => ?_
  obtain ⟨hfit, hstate⟩ := (autoconfigMapped_iff s).1 hmapped
  obtain h | h | h | h := h
  · omega
  · omega
  · omega
  · exact h hstate

/-! ### The first row that matches -/

theorem firstRegion_cons_match {row : MapRow} {rest : List MapRow} {r : Region} (h : rowSelects s row a = some r) :
    firstRegion s (row :: rest) a = r := by simp [firstRegion, h]

theorem firstRegion_cons_skip {row : MapRow} {rest : List MapRow} (h : rowSelects s row a = none) :
    firstRegion s (row :: rest) a = firstRegion s rest a := by simp [firstRegion, h]

/-- The Fast RAM window as the last row: what it does not hold is unmapped. -/
theorem firstRegion_fastRam :
    firstRegion s [.fastRam] a =
      if s.zorro.fastRamConfigState = 1 ∧ s.zorro.fastRamBaseAddress.toNat ≤ a
          ∧ a < s.zorro.fastRamBaseAddress.toNat + s.cfg.fastRamSize.bytes
      then .fastRam (a - s.zorro.fastRamBaseAddress.toNat) else .unmapped := by
  split
  · rename_i h
    exact firstRegion_cons_match (if_pos ((inFastRam_iff s a).2 h))
  · rename_i h
    exact firstRegion_cons_skip (if_neg fun hin => h ((inFastRam_iff s a).1 hin))

/-! ### The rows of the default map, each behind the ones above it (R76) -/

theorem defaultMap_chip (h : a ≤ 0x1FFFFF) :
    firstRegion s defaultAddressMap a = .chip (a % s.cfg.chipRamSize) :=
  firstRegion_cons_match (rowSelects_chip (Nat.zero_le a) h)

theorem defaultMap_ciaA {n : Nat} (hn : n < 16) :
    firstRegion s defaultAddressMap (0xBFE001 + 0x100 * n) = .cia .a n := by
  rw [defaultAddressMap, firstRegion_cons_skip (rowSelects_chip_above (by omega))]
  exact firstRegion_cons_match (rowSelects_cia .a (by decide) hn)

theorem defaultMap_ciaB {n : Nat} (hn : n < 16) :
    firstRegion s defaultAddressMap (0xBFD000 + 0x100 * n) = .cia .b n := by
  rw [defaultAddressMap, firstRegion_cons_skip (rowSelects_chip_above (by omega)),
    firstRegion_cons_skip (rowSelects_cia_none (by omega))]
  exact firstRegion_cons_match (rowSelects_cia .b (by decide) hn)

/-- Past the chip RAM and off the registers of both CIAs, the first three rows are skipped. -/
theorem defaultMap_skip_cias (hchip : 0x1FFFFF < a) (hciaA : ∀ n, n < 16 → a ≠ 0xBFE001 + 0x100 * n)
    (hciaB : ∀ n, n < 16 → a ≠ 0xBFD000 + 0x100 * n) :
    firstRegion s defaultAddressMap a = firstRegion s [.regs 0xDFF000, .autoconfig 0xE80000, .fastRam] a := by
  rw [defaultAddressMap, firstRegion_cons_skip (rowSelects_chip_above hchip),
    firstRegion_cons_skip (rowSelects_cia_none hciaA), firstRegion_cons_skip (rowSelects_cia_none hciaB)]

theorem defaultMap_regs (hlo : 0xDFF000 ≤ a) (hhi : a ≤ 0xDFF1FF) :
    firstRegion s defaultAddressMap a = .reg (BitVec.ofNat 9 (a - 0xDFF000)) := by
  rw [defaultMap_skip_cias (by omega) (by omega) (by omega)]
  exact firstRegion_cons_match (rowSelects_regs hlo (by omega))

theorem defaultMap_autoconfig (hlo : 0xE80000 ≤ a) (hhi : a ≤ 0xE8FFFF) (hfit : 0 < s.cfg.fastRamSize.bytes)
    (hstate : s.zorro.fastRamConfigState = 0) :
    firstRegion s defaultAddressMap a = .autoconfig (BitVec.ofNat 16 (a - 0xE80000)) := by
  rw [defaultMap_skip_cias (by omega) (by omega) (by omega), firstRegion_cons_skip (rowSelects_regs_none (by omega))]
  exact firstRegion_cons_match (rowSelects_autoconfig hlo (by omega) hfit hstate)

end

/-- Settles O53: the rows of the default map in turn, each with the rows above it skipped. -/
theorem defaultMapRegions : Obligations.DefaultMapRegions := by
  intro s a hmap _
  simp only [regionOf, hmap]
  refine ⟨defaultMap_chip, ?_, ?_, defaultMap_regs, defaultMap_autoconfig, ?_⟩
  · rintro n hn rfl; exact defaultMap_ciaA hn
  · rintro n hn rfl; exact defaultMap_ciaB hn
  · intro hchip hciaA hciaB hregs hauto
    rw [defaultMap_skip_cias hchip hciaA hciaB, firstRegion_cons_skip (rowSelects_regs_none (by omega)),
      firstRegion_cons_skip (rowSelects_autoconfig_none hauto), firstRegion_fastRam]

end Sys2Proof.Machine
end

section
/-! PROOFS. Encodings (30_encoding.md): the two words of a Copper instruction, the operand bytes of a request, and for
each format what the decoder makes of the encoder's bytes. -/

namespace Sys2Proof.Machine

open BitVec (extractLsb'_append_eq_of_le extractLsb'_append_eq_left extractLsb'_append_eq_right
  extractLsb'_append_extractLsb'_eq_extractLsb')

/-! ### The Copper's words (R101 to R106) -/

/-- The fields of a WAIT or SKIP are read back from its words, whatever the bit that tells the two apart. -/
theorem beamTargetOf_target (t : BeamTarget) (kind : BitVec 1) : beamTargetOf (targetIr1 t) (targetIr2 t kind) = t := by
  have hvp : (t.vp ++ t.hp ++ 1#1).extractLsb' 8 8 = t.vp := by
    rw [extractLsb'_append_eq_of_le (by decide)]; exact extractLsb'_append_eq_left
  have hhp : (t.vp ++ t.hp ++ 1#1).extractLsb' 1 7 = t.hp := by
    rw [extractLsb'_append_eq_of_le (by decide)]; exact extractLsb'_append_eq_right
  have hbfd : (BitVec.ofBool t.bfd ++ t.ve ++ t.he ++ kind).getLsbD 15 = t.bfd := by
    simp only [BitVec.getLsbD_append]; cases t.bfd <;> rfl
  have hve : (BitVec.ofBool t.bfd ++ t.ve ++ t.he ++ kind).extractLsb' 8 7 = t.ve := by
    rw [extractLsb'_append_eq_of_le (by decide), extractLsb'_append_eq_of_le (by decide)]
    exact extractLsb'_append_eq_right
  have hhe : (BitVec.ofBool t.bfd ++ t.ve ++ t.he ++ kind).extractLsb' 1 7 = t.he := by
    rw [extractLsb'_append_eq_of_le (by decide)]; exact extractLsb'_append_eq_right
  change BeamTarget.mk _ _ _ _ _ = BeamTarget.mk _ _ _ _ _
  congr

/-- A field of one bit. -/
theorem extractLsb'_one {w : Nat} (x : BitVec w) (k : Nat) : x.extractLsb' k 1 = BitVec.ofBool (x.getLsbD k) := by
  ext i hi
  obtain rfl : i = 0 := by omega
  simp

/-- The fields of a WAIT or SKIP and bit 0 are all of IR1. -/
theorem targetIr1_beamTargetOf {ir1 : Word} (ir2 : Word) (h : ir1.getLsbD 0 = true) :
    targetIr1 (beamTargetOf ir1 ir2) = ir1 := by
  have hfields : (ir1.extractLsb' 8 8 ++ ir1.extractLsb' 1 7 : BitVec 15) = ir1.extractLsb' 1 15 :=
    extractLsb'_append_extractLsb'_eq_extractLsb' rfl
  have hword : (ir1.extractLsb' 1 15 ++ ir1.extractLsb' 0 1 : BitVec 16) = ir1.extractLsb' 0 16 :=
    extractLsb'_append_extractLsb'_eq_extractLsb' rfl
  have hbit : 1#1 = ir1.extractLsb' 0 1 := by rw [extractLsb'_one, h]; rfl
  simp only [targetIr1, beamTargetOf]
  rw [hfields, hbit, hword, BitVec.extractLsb'_eq_self]

/-- The fields of a WAIT or SKIP and bit 0 are all of IR2. -/
theorem targetIr2_beamTargetOf (ir1 ir2 : Word) :
    targetIr2 (beamTargetOf ir1 ir2) (BitVec.ofBool (ir2.getLsbD 0)) = ir2 := by
  have hhigh : (ir2.extractLsb' 15 1 ++ ir2.extractLsb' 8 7 : BitVec 8) = ir2.extractLsb' 8 8 :=
    extractLsb'_append_extractLsb'_eq_extractLsb' rfl
  have hfields : (ir2.extractLsb' 8 8 ++ ir2.extractLsb' 1 7 : BitVec 15) = ir2.extractLsb' 1 15 :=
    extractLsb'_append_extractLsb'_eq_extractLsb' rfl
  have hword : (ir2.extractLsb' 1 15 ++ ir2.extractLsb' 0 1 : BitVec 16) = ir2.extractLsb' 0 16 :=
    extractLsb'_append_extractLsb'_eq_extractLsb' rfl
  simp only [targetIr2, beamTargetOf, ← extractLsb'_one]
  rw [hhigh, hfields, hword, BitVec.extractLsb'_eq_self]

theorem encode_wait_beamTargetOf {ir1 ir2 : Word} (h1 : ir1.getLsbD 0 = true) (h2 : ir2.getLsbD 0 = false) :
    (encode (.wait (beamTargetOf ir1 ir2))).bytes = copperBytes ir1 ir2 := by
  have hir2 := targetIr2_beamTargetOf ir1 ir2
  rw [h2] at hir2
  exact congrArg₂ copperBytes (targetIr1_beamTargetOf ir2 h1) hir2

theorem encode_skip_beamTargetOf {ir1 ir2 : Word} (h1 : ir1.getLsbD 0 = true) (h2 : ir2.getLsbD 0 = true) :
    (encode (.skip (beamTargetOf ir1 ir2))).bytes = copperBytes ir1 ir2 := by
  have hir2 := targetIr2_beamTargetOf ir1 ir2
  rw [h2] at hir2
  exact congrArg₂ copperBytes (targetIr1_beamTargetOf ir2 h1) hir2

theorem getLsbD_wordOf_low (hi lo : Byte) {k : Nat} (h : k < 8) : (wordOf hi lo).getLsbD k = lo.getLsbD k := by
  simp only [wordOf, BitVec.getLsbD_append, if_pos h]

@[simp] theorem copperBytes_wordOf (b0 b1 b2 b3 : Byte) :
    copperBytes (wordOf b0 b1) (wordOf b2 b3) = [b0, b1, b2, b3] := by
  simp [copperBytes]

/-! ### What the decoder makes of two Copper words -/

theorem decodeCopper_move {ir1 : Word} (ir2 : Word) (h : ir1.getLsbD 0 = false) :
    decodeCopper ir1 ir2 = .move (ir1.extractLsb' 1 8) ir2 := if_pos h

theorem decodeCopper_wait {ir1 ir2 : Word} (h1 : ir1.getLsbD 0 = true) (h2 : ir2.getLsbD 0 = false) :
    decodeCopper ir1 ir2 = .wait (beamTargetOf ir1 ir2) := by
  rw [decodeCopper, if_neg (by rw [h1]; decide), if_pos h2]

theorem decodeCopper_skip {ir1 ir2 : Word} (h1 : ir1.getLsbD 0 = true) (h2 : ir2.getLsbD 0 = true) :
    decodeCopper ir1 ir2 = .skip (beamTargetOf ir1 ir2) := by
  rw [decodeCopper, if_neg (by rw [h1]; decide), if_neg (by rw [h2]; decide)]

theorem decode_copper (b0 b1 b2 b3 : Byte) (rest : List Byte) :
    decode { format := .copper, bytes := b0 :: b1 :: b2 :: b3 :: rest }
      = .ok (decodeCopper (wordOf b0 b1) (wordOf b2 b3)) := rfl

theorem decode_copperBytes (ir1 ir2 : Word) :
    decode { format := .copper, bytes := copperBytes ir1 ir2 } = .ok (decodeCopper ir1 ir2) := by
  rw [copperBytes, decode_copper, wordOf_wordHi_wordLo, wordOf_wordHi_wordLo]

/-- Settles O2: bit 0 of each word is bit 0 of its low byte, and decides (R105); the fields of a WAIT or a SKIP are
written back as the words they came from. -/
theorem copperDecodingIsTotal : Obligations.CopperDecodingIsTotal := by
  intro b0 b1 b2 b3 rest
  have hbit1 : (wordOf b0 b1).getLsbD 0 = b1.getLsbD 0 := getLsbD_wordOf_low b0 b1 (by decide)
  have hbit2 : (wordOf b2 b3).getLsbD 0 = b3.getLsbD 0 := getLsbD_wordOf_low b2 b3 (by decide)
  rw [← hbit1, ← hbit2, ← copperBytes_wordOf b0 b1 b2 b3, decode_copper]
  refine ⟨fun hmove => ?_, fun h1 h2 => ?_, fun h1 h2 => ?_⟩
  · refine ⟨_, congrArg Except.ok (decodeCopper_move _ hmove), fun k hk => ?_⟩
    simp [hk, Nat.add_comm 1 k]
  · exact ⟨_, congrArg Except.ok (decodeCopper_wait h1 h2), encode_wait_beamTargetOf h1 h2⟩
  · exact ⟨_, congrArg Except.ok (decodeCopper_skip h1 h2), encode_skip_beamTargetOf h1 h2⟩

/-! ### The operand bytes of a request (log 3) -/

theorem ciaOfByte_ciaByte (c : CiaId) : ciaOfByte (ciaByte c) = c := by cases c <;> rfl

theorem masterOfByte_masterByte (m : Master) : masterOfByte (masterByte m) = m := by cases m <;> rfl

/-- The two bytes of a register address, and that they are read back as it. -/
theorem regAddrBytes_eq (a : RegAddr) : ∃ hi lo, regAddrBytes a = [hi, lo] ∧ regAddrOf hi lo = a := by
  refine ⟨_, _, rfl, BitVec.eq_of_toNat_eq ?_⟩
  have := a.isLt
  simp only [regAddrOf, BitVec.extractLsb'_toNat, toNat_wordOf, BitVec.toNat_ofNat, Nat.shiftRight_eq_div_pow]
  omega

/-- The first operand byte of an ADVANCE: AUD above the four single claims and pulses. -/
def inputFlags (i : CycleInputs) : Byte :=
  (((i.aud.concat i.disk).concat i.todPulseB).concat i.todPulseA).concat i.cpuClaim

theorem inputBytes_eq (i : CycleInputs) :
    inputBytes i
      = [inputFlags i, 0#2 ++ i.bpl, i.spr, i.pinsA.portA, i.pinsA.portB, i.pinsB.portA, i.pinsB.portB] := rfl

theorem inputFlags_cpuClaim (i : CycleInputs) : (inputFlags i).getLsbD 0 = i.cpuClaim :=
  BitVec.getLsbD_concat_zero

theorem inputFlags_todPulseA (i : CycleInputs) : (inputFlags i).getLsbD 1 = i.todPulseA :=
  BitVec.getLsbD_concat_succ.trans BitVec.getLsbD_concat_zero

theorem inputFlags_todPulseB (i : CycleInputs) : (inputFlags i).getLsbD 2 = i.todPulseB := by
  simp only [inputFlags, BitVec.getLsbD_concat_succ, BitVec.getLsbD_concat_zero]

theorem inputFlags_disk (i : CycleInputs) : (inputFlags i).getLsbD 3 = i.disk := by
  simp only [inputFlags, BitVec.getLsbD_concat_succ, BitVec.getLsbD_concat_zero]

theorem inputFlags_aud (i : CycleInputs) : (inputFlags i).extractLsb' 4 4 = i.aud := by
  unfold inputFlags BitVec.concat
  iterate 3 rw [extractLsb'_append_eq_of_le (by decide)]
  exact extractLsb'_append_eq_left

/-- The claims, pulses and pin levels of an ADVANCE are read back from its seven bytes (R134). -/
theorem inputsOf_inputBytes (i : CycleInputs) :
    inputsOf (inputFlags i) (0#2 ++ i.bpl) i.spr i.pinsA.portA i.pinsA.portB i.pinsB.portA i.pinsB.portB = i := by
  have hbpl : (0#2 ++ i.bpl).extractLsb' 0 6 = i.bpl := extractLsb'_append_eq_right
  simp only [inputsOf, inputFlags_cpuClaim, inputFlags_todPulseA, inputFlags_todPulseB, inputFlags_disk, inputFlags_aud,
    hbpl]

/-! ### Requests of each format are read back -/

theorem rowOr_of_row {row : Option Instr} {i : Instr} (h : row = some i) : rowOr row = .ok i := by rw [h]; rfl

section
variable {i : Instr} {v : Byte} {c : CiaId}

theorem decode_regrWords {a : RegAddr} (h : regrRow (regIndex a) = some i) : decode (regrWords a) = .ok i := by
  obtain ⟨hi, lo, hbytes, ha⟩ := regAddrBytes_eq a
  rw [regrWords, hbytes]
  change rowOr (regrRow (regIndex (regAddrOf hi lo))) = _
  rw [ha, rowOr_of_row h]

theorem decode_regwWords {a : RegAddr} {src : Master} {w : Word} (h : regwRow (regIndex a) src w = some i) :
    decode (regwWords a src w) = .ok i := by
  obtain ⟨hi, lo, hbytes, ha⟩ := regAddrBytes_eq a
  rw [regwWords, hbytes]
  change rowOr (regwRow (regIndex (regAddrOf hi lo)) (masterOfByte (masterByte src)) (wordOf (wordHi w) (wordLo w))) = _
  rw [ha, masterOfByte_masterByte, wordOf_wordHi_wordLo, rowOr_of_row h]

theorem decode_ciarWords {n : Byte} (h : ciarRow (n.extractLsb' 0 4).toNat c = some i) :
    decode (ciarWords n c) = .ok i := by
  change rowOr (ciarRow _ (ciaOfByte (ciaByte c))) = _
  rw [ciaOfByte_ciaByte, rowOr_of_row h]

theorem decode_ciawWords {n : Byte} (h : ciawRow (n.extractLsb' 0 4).toNat c v = some i) :
    decode (ciawWords n c v) = .ok i := by
  change rowOr (ciawRow _ (ciaOfByte (ciaByte c)) v) = _
  rw [ciaOfByte_ciaByte, rowOr_of_row h]

theorem decode_zorrowWords {off : Word} (h : zorrowRow off.toNat v = some i) : decode (zorrowWords off v) = .ok i := by
  change rowOr (zorrowRow (wordOf (wordHi off) (wordLo off)).toNat v) = _
  rw [wordOf_wordHi_wordLo, rowOr_of_row h]

end

theorem decode_move (ra : BitVec 8) (dw : Word) : decode (encode (.move ra dw)) = .ok (.move ra dw) := by
  have hra : (0#7 ++ ra ++ 0#1).extractLsb' 1 8 = ra := by
    rw [extractLsb'_append_eq_of_le (by decide)]; exact extractLsb'_append_eq_right
  refine (decode_copperBytes _ _).trans (congrArg Except.ok ?_)
  exact (decodeCopper_move dw (Laws.getLsbD_moveIr1 ra)).trans (congrArg (Instr.move · dw) hra)

theorem decode_wait (t : BeamTarget) : decode (encode (.wait t)) = .ok (.wait t) := by
  refine (decode_copperBytes _ _).trans (congrArg Except.ok ?_)
  rw [decodeCopper_wait (Laws.getLsbD_targetIr1 t) (Laws.getLsbD_targetIr2 t 0), beamTargetOf_target]

theorem decode_skip (t : BeamTarget) : decode (encode (.skip t)) = .ok (.skip t) := by
  refine (decode_copperBytes _ _).trans (congrArg Except.ok ?_)
  rw [decodeCopper_skip (Laws.getLsbD_targetIr1 t) (Laws.getLsbD_targetIr2 t 1), beamTargetOf_target]

theorem decode_reset (hard : Bool) : decode (encode (.reset hard)) = .ok (.reset hard) := by cases hard <;> rfl

theorem decode_advance (inputs : CycleInputs) : decode (encode (.advance inputs)) = .ok (.advance inputs) := by
  change decode (hostWords 1 (inputBytes inputs)) = _
  rw [inputBytes_eq]
  exact congrArg (fun x => Except.ok (Instr.advance x)) (inputsOf_inputBytes inputs)

theorem ofBigEndian_address {addr : Nat} (h : addr < 2 ^ addrBits) : ofBigEndian (bigEndian 4 addr) = addr :=
  (ofBigEndian_bigEndian 4 addr).trans (Nat.mod_eq_of_lt h)

theorem decode_peek {addr : Nat} (h : addr < 2 ^ addrBits) : decode (encode (.peek addr)) = .ok (.peek addr) :=
  congrArg (fun x => Except.ok (Instr.peek x)) (ofBigEndian_address h)

theorem decode_poke {addr : Nat} (v : Byte) (h : addr < 2 ^ addrBits) :
    decode (encode (.poke addr v)) = .ok (.poke addr v) :=
  congrArg (fun x => Except.ok (Instr.poke x v)) (ofBigEndian_address h)

theorem decode_snapsave {cap : Nat} (h : cap < 2 ^ capBits) : decode (encode (.snapsave cap)) = .ok (.snapsave cap) :=
  congrArg (fun x => Except.ok (Instr.snapsave x)) ((ofBigEndian_bigEndian 8 cap).trans (Nat.mod_eq_of_lt h))

theorem decode_regwrite (a : RegAddr) (v : Word) : decode (encode (.regwrite a v)) = .ok (.regwrite a v) := by
  obtain ⟨hi, lo, hbytes, ha⟩ := regAddrBytes_eq a
  change decode (hostWords 7 (regAddrBytes a ++ [wordHi v, wordLo v])) = _
  rw [hbytes]
  change Except.ok (Instr.regwrite (regAddrOf hi lo) (wordOf (wordHi v) (wordLo v))) = _
  rw [ha, wordOf_wordHi_wordLo]

theorem decode_regread (a : RegAddr) : decode (encode (.regread a)) = .ok (.regread a) := by
  obtain ⟨hi, lo, hbytes, ha⟩ := regAddrBytes_eq a
  change decode (hostWords 8 (regAddrBytes a)) = _
  rw [hbytes]
  exact congrArg (fun x => Except.ok (Instr.regread x)) ha

theorem decode_autoconfRead (off : BitVec 16) : decode (encode (.autoconfRead off)) = .ok (.autoconfRead off) :=
  congrArg (fun x => Except.ok (Instr.autoconfRead x)) (wordOf_wordHi_wordLo off)

/-- Settles O1: the Copper's instructions and the host operations one by one; a row of the register, CIA or autoconfig
files is the row its table has at the number the encoder writes. -/
theorem decodeReadsBackEveryEncoding : Obligations.DecodeReadsBackEveryEncoding := by
  intro i hwf
  cases i with
  | move ra dw => exact decode_move ra dw
  | wait t => exact decode_wait t
  | skip t => exact decode_skip t
  | reset hard => exact decode_reset hard
  | advance inputs => exact decode_advance inputs
  | peek addr => exact decode_peek (of_decide_eq_true hwf)
  | poke addr v => exact decode_poke v (of_decide_eq_true hwf)
  | snapsize => rfl
  | snapsave cap => exact decode_snapsave (of_decide_eq_true hwf)
  | snapload buffer => rfl
  | regwrite a v => exact decode_regwrite a v
  | regread a => exact decode_regread a
  | autoconfRead off => exact decode_autoconfRead off
  | dmaconr | vposr | vhposr => exact decode_regrWords rfl
  | vposw | vhposw | copcon | bltcon0 | bltcon1 | bltafwm | bltalwm | bltcpth | bltcptl | bltbpth | bltbptl | bltapth
  | bltaptl | bltdpth | bltdptl | bltsize | bltcmod | bltbmod | bltamod | bltdmod | bltcdat | bltbdat | bltadat
  | cop1lch | cop1lcl | cop2lch | cop2lcl | copjmp1 | copjmp2 | dmacon | bplcon0 => exact decode_regwWords rfl
  | praR | prbR | ddraR | ddrbR | taloR | tahiR | tbloR | tbhiR | todloR | todmidR | todhiR | regbR | sdrR | icrR
  | craR | crbR => exact decode_ciarWords rfl
  | praW | prbW | ddraW | ddrbW | taloW | tahiW | tbloW | tbhiW | todloW | todmidW | todhiW | regbW | sdrW | imrW
  | craW | crbW => exact decode_ciawWords rfl
  | autoconfBaseHi | autoconfBaseLo | autoconfShutup => exact decode_zorrowWords rfl

/-- Settles O3: the decoder evaluated on each word. -/
theorem sampleWordsDecode : Obligations.SampleWordsDecode := ⟨rfl, rfl, rfl, rfl, rfl, rfl, rfl, rfl, rfl⟩

end Sys2Proof.Machine
end

section
/-! PROOFS. The register bus (30_encoding.md R107 to R112): what a bus write and a bus read do, through the row of the
even address, and what a Blitter register's row does during a blit. -/

namespace Sys2Proof.Machine

/-! ### The register of an address (R107) -/

/-- Clearing bit 0 of a word of any width rounds it down to even. -/
theorem toNat_and_not_one {w : Nat} (x : BitVec w) : (x &&& ~~~1#w).toNat = 2 * (x.toNat / 2) := by
  have hshift : x &&& ~~~1#w = x >>> 1 <<< 1 := by
    ext i hi
    cases i with
    | zero => simp
    | succ i => simp [BitVec.getElem_one, BitVec.getLsbD_eq_getElem hi, Nat.add_comm 1 i]
  have := x.isLt
  rw [hshift, BitVec.toNat_shiftLeft, BitVec.toNat_ushiftRight, Nat.shiftLeft_eq, Nat.shiftRight_eq_div_pow,
    Nat.mod_eq_of_lt (by omega)]
  omega

theorem regIndex_eq (a : RegAddr) : regIndex a = 2 * (a.toNat / 2) := toNat_and_not_one a

theorem ofNat_regIndex (a : RegAddr) : BitVec.ofNat 9 (regIndex a) = a &&& 0x1FE := by
  rw [regIndex, BitVec.ofNat_toNat, BitVec.setWidth_eq]

/-! ### A write of the bus is the row's operation, or is forwarded (R108, R111) -/

theorem regWrite_of_row {src : Master} {a : RegAddr} {v : Word} {i : Instr} (s : State)
    (h : regwRow (regIndex a) src v = some i) : regWrite src a v s = exec i s := by
  generalize hr : regIndex a = r at h
  unfold regwRow at h
  split at h <;> cases h <;> (unfold regWrite; rewrite [hr]; rfl)

theorem regWrite_of_no_row {src : Master} {a : RegAddr} {v : Word} (s : State)
    (h : regwRow (regIndex a) src v = none) :
    regWrite src a v s = .next (emit s (.regWriteOut src (a &&& 0x1FE) v)) := by
  unfold regWrite
  split
  case h_32 => rfl
  all_goals
    rename_i hr
    rewrite [hr] at h
    exact absurd h (Option.some_ne_none _)

/-! ### A read of the bus -/

theorem regRead_of_row {a : RegAddr} {i : Instr} (s : State) (h : regrRow (regIndex a) = some i) :
    ∃ w, regRead a s = some w ∧ exec i s = .next (setResult s (.word w)) := by
  generalize hr : regIndex a = r at h
  unfold regrRow at h
  split at h <;> cases h <;> (unfold regRead; rewrite [hr]; exact ⟨_, rfl, rfl⟩)

theorem regRead_of_no_row {a : RegAddr} (s : State) (h : regrRow (regIndex a) = none) : regRead a s = none := by
  unfold regRead
  split
  case h_4 => rfl
  all_goals
    rename_i hr
    rewrite [hr] at h
    exact absurd h (Option.some_ne_none _)

theorem execRegread_of_row {a : RegAddr} {i : Instr} (s : State) (h : regrRow (regIndex a) = some i) :
    ∃ t, exec i s = .next t ∧ execRegread a s = .next t := by
  obtain ⟨w, hread, hexec⟩ := regRead_of_row s h
  exact ⟨_, hexec, by rw [execRegread, hread]⟩

theorem execRegread_of_no_row {a : RegAddr} (s : State) (h : regrRow (regIndex a) = none) :
    execRegread a s
      = .next (raiseUnmapped s (BitVec.ofNat 24 (regsBase s.cfg.addressMap + regIndex a)) .read) := by
  rw [execRegread, regRead_of_no_row s h]

/-! ### The base of the chipset registers in a map (log 19) -/

/-- Rows above the first register row do not count. -/
theorem regsBase_append {before : List MapRow} (rows : List MapRow) (h : ∀ b, MapRow.regs b ∉ before) :
    regsBase (before ++ rows) = regsBase rows := by
  induction before with
  | nil => rfl
  | cons row before ih =>
    have hrest := ih fun b hb => h b (List.mem_cons_of_mem _ hb)
    cases row with
    | regs b => exact absurd List.mem_cons_self (h b)
    | chip | cia | autoconfig | fastRam | outside => exact hrest

theorem regsBase_none {rows : List MapRow} (h : ∀ b, MapRow.regs b ∉ rows) : regsBase rows = 0xDFF000 := by
  have := regsBase_append [] h
  rwa [List.append_nil] at this

/-- Settles O56: each access is the operation of the row of `regIndex a`, which is the even address; without a row the
write is forwarded and the read is unmapped at the first register row's base. -/
theorem registerBusAccesses : Obligations.RegisterBusAccesses := by
  intro a v s r
  have hr : r = regIndex a := (regIndex_eq a).symm
  rw [hr]
  refine ⟨fun i hi => regWrite_of_row s hi, fun hnone => ?_, fun i hi => ?_, fun hnone => ?_⟩
  · rw [ofNat_regIndex]
    exact regWrite_of_no_row s hnone
  · obtain ⟨t, hi, hread⟩ := execRegread_of_row s hi
    exact ⟨hread.trans hi.symm, t, hread⟩
  · intro unmappedAt
    have hbase {b : Nat} (hb : regsBase s.cfg.addressMap = b) : unmappedAt b := by
      subst hb
      exact execRegread_of_no_row s hnone
    refine ⟨fun hmap => hbase (by rw [hmap]; rfl), fun before base after hmap hbefore => hbase ?_,
      fun hno => hbase (regsBase_none hno)⟩
    rw [hmap, regsBase_append _ hbefore]; rfl

/-! ### Blitter registers while a blit is in flight (R112) -/

/-- Every Blitter register has a row, and its write looks at `busyFlag` first, whatever it does with an idle Blitter. -/
theorem regwRow_blitter {r : Nat} (src : Master) (v : Word) (h : r ∈ blitterAddresses) :
    ∃ (i : Instr) (idle : State → Out), regwRow r src v = some i
      ∧ ∀ s, exec i s = if s.blt.busyFlag then .refused .blitterRegisterWriteWhileBusy else idle s := by
  simp only [blitterAddresses, List.mem_cons, List.not_mem_nil, or_false] at h
  rcases h with rfl | rfl | rfl | rfl | rfl | rfl | rfl | rfl | rfl | rfl | rfl | rfl | rfl | rfl | rfl | rfl | rfl
    | rfl | rfl | rfl <;> exact ⟨_, _, rfl, fun _ => rfl⟩

/-- Settles O32: the row's operation refuses (`regwRow_blitter`), and REGWRITE is that operation with the host as
master. -/
theorem blitterWritesAreRefusedWhileBusy : Obligations.BlitterWritesAreRefusedWhileBusy := by
  intro src a v s hbusy ha
  have hrefused (m : Master) : ∃ i, regwRow (regIndex a) m v = some i
      ∧ exec i s = .refused .blitterRegisterWriteWhileBusy := by
    obtain ⟨i, idle, hrow, hexec⟩ := regwRow_blitter m v ha
    exact ⟨i, hrow, by rw [hexec, if_pos hbusy]⟩
  obtain ⟨i, hrow, hexec⟩ := hrefused .host
  exact ⟨hrefused src, (regWrite_of_row s hrow).trans hexec⟩

end Sys2Proof.Machine
end

section
/-! PROOFS. The cycle (40_agnus.md R135): what the granted owner's work leaves alone, what a completed ADVANCE does to the
raster (R131, R136 to R138) and to the CIAs (R149 to R151), and how the raster runs over many cycles (R132, R133). -/

namespace Sys2Proof.Machine

/-! ### What the callback and the end of a cycle leave alone -/

/-- One Blitter word changes the Blitter and chip RAM alone. -/
theorem stepOneWord_eq (s : State) :
    stepOneWord s = { s with blt := (stepOneWord s).blt, chipRam := (stepOneWord s).chipRam } := by
  simp only [stepOneWord, writeDestination]
  split <;> rfl

/-- The granted owner's work reaches, of Agnus, only the DMA control and the interlace enable, and no raster position and
no CIA. -/
theorem ownerCallback_eq {s u : State} (h : ownerCallback s = .next u) :
    u = { s with
      agnus := { s.agnus with dmacon := u.agnus.dmacon, interlaceEnabled := u.agnus.interlaceEnabled }
      cop := u.cop
      blt := u.blt
      chipRam := u.chipRam
      events := u.events } := by
  obtain ⟨-, htick⟩ | ⟨-, rfl⟩ | ⟨-, -, rfl⟩ := ownerCallback_next h
  · rw [copperTick_next htick]
  · rw [stepOneWord_eq s]
  · rfl

/-- The phase of the CIA divider after a cycle (R149). -/
def nextPhase (s : State) : Nat := if s.agnus.ciaPhase + 1 = s.cfg.ciaDivider then 0 else s.agnus.ciaPhase + 1

theorem endCycle_agnus (i : CycleInputs) (s : State) :
    (endCycle i s).agnus = { s.agnus with ciaPhase := nextPhase s } := by
  simp only [endCycle, deliverTod, divideCia, nextPhase]
  split <;> rfl

theorem divideCia_ciaA (s : State) :
    (divideCia s).ciaA = if s.agnus.ciaPhase + 1 = s.cfg.ciaDivider then tickCia s.ciaA else s.ciaA := by
  unfold divideCia; split <;> rfl

theorem divideCia_ciaB (s : State) :
    (divideCia s).ciaB = if s.agnus.ciaPhase + 1 = s.cfg.ciaDivider then tickCia s.ciaB else s.ciaB := by
  unfold divideCia; split <;> rfl

theorem endCycle_ciaA (i : CycleInputs) (s : State) :
    (endCycle i s).ciaA =
      if i.todPulseA then pulseTod s.cfg.todBits (divideCia s).ciaA else (divideCia s).ciaA := by
  simp [endCycle, deliverTod]

theorem endCycle_ciaB (i : CycleInputs) (s : State) :
    (endCycle i s).ciaB =
      if i.todPulseB then pulseTod s.cfg.todBits (divideCia s).ciaB else (divideCia s).ciaB := by
  simp [endCycle, deliverTod]

/-! ### A completed ADVANCE -/

section
variable {i : CycleInputs} {s t : State}

theorem advance_next : exec (.advance i) s = .next t ↔ ∃ u, ownerCallback (reached i s) = .next u ∧ t = endCycle i u :=
  advanceOneCycle_next

theorem advance_cycle (h : exec (.advance i) s = .next t) : t.cycle = nextCycle s := by
  obtain ⟨u, hu, rfl⟩ := advance_next.1 h
  rw [endCycle_cycle, ownerCallback_eq hu]; rfl

theorem advance_line (h : exec (.advance i) s = .next t) : t.line = nextLine s := by
  obtain ⟨u, hu, rfl⟩ := advance_next.1 h
  rw [endCycle_line, ownerCallback_eq hu]; rfl

theorem advance_frame (h : exec (.advance i) s = .next t) :
    t.frame = if wraps s then frameNext s.frame s.agnus.interlaceEnabled else s.frame := by
  obtain ⟨u, hu, rfl⟩ := advance_next.1 h
  rw [endCycle_frame, ownerCallback_eq hu]; rfl

/-- Of Agnus a cycle sets the line signals (R138), the owner (R145) and the divider phase (R149); the Copper may write the
DMA control and the interlace enable. -/
theorem advance_agnus (h : exec (.advance i) s = .next t) :
    t.agnus =
      { interlaceEnabled := t.agnus.interlaceEnabled, hblank := nextCycle s == 0, hsync := nextCycle s == 0,
        frameStart := wraps s, dmacon := t.agnus.dmacon, busOwner := grantedOwner i (beginCycle i s),
        ciaPhase := nextPhase s } := by
  obtain ⟨u, hu, rfl⟩ := advance_next.1 h
  rw [endCycle_agnus, ownerCallback_eq hu]; rfl

/-! ### The raster increment (R136) -/

theorem nextCycle_eq (s : State) : nextCycle s = if s.cycle.toNat < 226 then s.cycle + 1 else 0 := rfl

theorem nextLine_eq (s : State) :
    nextLine s = if s.cycle.toNat < 226 then s.line
      else if s.line.toNat < numLines s.frame - 1 then s.line + 1 else 0 := rfl

theorem nextCycle_inside (h : s.cycle.toNat < 226) : (nextCycle s).toNat = s.cycle.toNat + 1 := by
  rw [nextCycle_eq, if_pos h]
  bv_omega

theorem nextCycle_lineEnd (h : 226 ≤ s.cycle.toNat) : nextCycle s = 0 := if_neg (Nat.not_lt.2 h)

theorem nextLine_inside (h : s.cycle.toNat < 226) : nextLine s = s.line := if_pos h

theorem nextLine_lineEnd (h : 226 ≤ s.cycle.toNat) (hl : s.line.toNat + 1 < numLines s.frame) :
    (nextLine s).toNat = s.line.toNat + 1 := by
  have hmax := (numLines_mem s.frame).2
  rw [nextLine_eq, if_neg (Nat.not_lt.2 h), if_pos (by omega)]
  bv_omega

theorem nextLine_frameEnd (h : 226 ≤ s.cycle.toNat) (hl : numLines s.frame ≤ s.line.toNat + 1) : nextLine s = 0 := by
  rw [nextLine_eq, if_neg (Nat.not_lt.2 h), if_neg (by omega)]

theorem wraps_iff : wraps s = true ↔ 226 ≤ s.cycle.toNat ∧ numLines s.frame ≤ s.line.toNat + 1 := by
  simp only [wraps, Bool.and_eq_true, Bool.not_eq_true', decide_eq_false_iff_not, Config.lineCycles]
  omega

theorem wraps_inside (h : s.cycle.toNat < 226) : wraps s = false :=
  Bool.eq_false_iff.2 fun hw => by have := wraps_iff.1 hw; omega

theorem wraps_lineEnd (hl : s.line.toNat + 1 < numLines s.frame) : wraps s = false :=
  Bool.eq_false_iff.2 fun hw => by have := wraps_iff.1 hw; omega

end

/-- The flip-flop after `Frame.next`: interlace toggles it (R131). -/
theorem frameNext_eq (f : Frame) (interlace : Bool) :
    frameNext f interlace =
      { sequenceNumber := f.sequenceNumber + 1, wasLongFramePrev := f.isLongFrame,
        isLongFrame := f.isLongFrame ^^ interlace } := by
  cases interlace <;> simp [frameNext]

/-- Settles O9: the callback leaves the raster alone (`advance_cycle`, `advance_line`, `advance_frame`), so a cycle is the
increment, in its three cases of R136. -/
theorem advanceMovesTheRaster : Obligations.AdvanceMovesTheRaster := by
  intro i s t h
  have hagnus := advance_agnus h
  have hstart : t.agnus.frameStart = wraps s := by rw [hagnus]
  rw [advance_cycle h, advance_line h, advance_frame h, hstart]
  refine ⟨fun hc => ?_, fun hc hl => ?_, fun hc hl => ?_, ?_, ?_⟩
  · simp [wraps_inside hc, nextCycle_inside hc, nextLine_inside hc]
  · simp [wraps_lineEnd hl, nextCycle_lineEnd hc, nextLine_lineEnd hc hl]
  · simp [wraps_iff.2 ⟨hc, hl⟩, nextCycle_lineEnd hc, nextLine_frameEnd hc hl, frameNext_eq]
  · rw [hagnus]; rfl
  · rw [hagnus]; rfl

/-- Settles O14: the callback leaves the CIAs and the divider (`ownerCallback_eq`), so they go from the sampling of
sub-step 0 to the divider and the TOD pulses of sub-steps 6 and 7. -/
theorem advanceClocksTheCias : Obligations.AdvanceClocksTheCias := by
  intro i s t h
  obtain ⟨u, hu, rfl⟩ := advance_next.1 h
  rw [endCycle_agnus, endCycle_ciaA, endCycle_ciaB, divideCia_ciaA, divideCia_ciaB, ownerCallback_eq hu]
  exact ⟨rfl, rfl, rfl⟩

/-! ### Many cycles -/

theorem advances_append (is js : List CycleInputs) (s : State) :
    advances (is ++ js) s = andThen (advances is s) (advances js) := by
  induction is generalizing s with
  | nil => rfl
  | cons i is ih =>
    rw [List.cons_append, advances, advances]
    cases exec (.advance i) s with
    | next u => exact ih u
    | fault r => rfl
    | refused r => rfl

theorem advances_cons_next {i : CycleInputs} {is : List CycleInputs} {s t : State} :
    advances (i :: is) s = .next t ↔ ∃ u, exec (.advance i) s = .next u ∧ advances is u = .next t := andThen_next

theorem advances_concat_next {i : CycleInputs} {is : List CycleInputs} {s t : State} :
    advances (is ++ [i]) s = .next t ↔ ∃ u, advances is s = .next u ∧ exec (.advance i) u = .next t := by
  rw [advances_append, andThen_next]
  refine exists_congr fun u => and_congr_right fun _ => ?_
  rw [advances_cons_next]
  simp [advances]

/-! ### The length of a frame (R133) -/

/-- The position as the number of cycles since (0, 0) of its frame. -/
def cyclesIntoFrame (s : State) : Nat := 227 * s.line.toNat + s.cycle.toNat

/-- One cycle of a frame that is not its last counts one further. -/
theorem advance_cyclesIntoFrame {i : CycleInputs} {s t : State} (h : exec (.advance i) s = .next t)
    (hc : s.cycle.toNat < 227) (hlast : cyclesIntoFrame s + 1 < 227 * numLines s.frame) :
    cyclesIntoFrame t = cyclesIntoFrame s + 1 ∧ t.cycle.toNat < 227 ∧ t.frame = s.frame := by
  obtain ⟨hinside, hlineEnd, -⟩ := advanceMovesTheRaster i s t h
  unfold cyclesIntoFrame at *
  by_cases hin : s.cycle.toNat < 226
  · obtain ⟨hcycle, hline, hframe, -⟩ := hinside hin
    exact ⟨by rw [hcycle, hline]; omega, by omega, hframe⟩
  · obtain ⟨hcycle, hline, hframe, -⟩ := hlineEnd (by omega) (by omega)
    have hzero : t.cycle.toNat = 0 := by rw [hcycle]; rfl
    exact ⟨by omega, by omega, hframe⟩

theorem advances_cyclesIntoFrame {is : List CycleInputs} {s t : State} (h : advances is s = .next t)
    (hc : s.cycle.toNat < 227) (hlast : cyclesIntoFrame s + is.length < 227 * numLines s.frame) :
    cyclesIntoFrame t = cyclesIntoFrame s + is.length ∧ t.cycle.toNat < 227 ∧ t.frame = s.frame := by
  induction is generalizing s with
  | nil => cases h; exact ⟨rfl, hc, rfl⟩
  | cons i is ih =>
    obtain ⟨u, hu, ht⟩ := advances_cons_next.1 h
    rw [List.length_cons] at *
    obtain ⟨hcount, hcu, hframe⟩ := advance_cyclesIntoFrame hu hc (by omega)
    obtain ⟨hrest, hct, hframe'⟩ := ih ht hcu (by rw [hframe]; omega)
    exact ⟨by omega, hct, hframe'.trans hframe⟩

/-- Settles O19: every cycle but the last counts one further into the frame (`advances_cyclesIntoFrame`), and the cycle
after the last position is the wrap of R136. -/
theorem frameTakes227CyclesPerLine : Obligations.FrameTakes227CyclesPerLine := by
  intro is s t hline hcycle h
  have hstart : cyclesIntoFrame s = 0 := by simp [cyclesIntoFrame, hline, hcycle]
  have hc : s.cycle.toNat < 227 := by rw [hcycle]; decide
  have hlines := (numLines_mem s.frame).1
  constructor
  · intro hlen
    obtain ⟨hcount, hct, hframe⟩ := advances_cyclesIntoFrame h hc (by omega)
    unfold cyclesIntoFrame at hcount hstart
    exact ⟨by omega, by omega, hframe⟩
  · intro hlen
    obtain rfl | ⟨init, i, rfl⟩ := is.eq_nil_or_concat'
    · rw [List.length_nil] at hlen; omega
    rw [List.length_append, List.length_singleton] at hlen
    obtain ⟨u, hu, ht⟩ := advances_concat_next.1 h
    obtain ⟨hcount, hcu, hframe⟩ := advances_cyclesIntoFrame hu hc (by omega)
    unfold cyclesIntoFrame at hcount hstart
    obtain ⟨-, -, hwrap, -⟩ := advanceMovesTheRaster i u t ht
    obtain ⟨hct, hlt, hfs, hft⟩ := hwrap (by omega) (by rw [hframe]; omega)
    rw [hft, hframe]
    exact ⟨hlt, hct, hfs, rfl, rfl⟩

/-! ### Interlace (R132) -/

/-- A Copper that does not claim is not granted. -/
theorem grantedOwner_ne_copper {i : CycleInputs} {s : State} (h : copperClaims s = false) :
    grantedOwner i s ≠ some .copper := fun hg =>
  Bool.false_ne_true (h.symm.trans (grantedOwner_some hg).1)

/-- Only the Copper's work writes the DMA control and the interlace enable. -/
theorem advance_control_of_unclaimed {i : CycleInputs} {s t : State} (h : exec (.advance i) s = .next t)
    (hcop : copperClaims (beginCycle i s) = false) :
    t.agnus.dmacon = s.agnus.dmacon ∧ t.agnus.interlaceEnabled = s.agnus.interlaceEnabled := by
  obtain ⟨u, hu, rfl⟩ := advance_next.1 h
  rw [endCycle_agnus]
  obtain ⟨hgrant, -⟩ | ⟨-, rfl⟩ | ⟨-, -, rfl⟩ := ownerCallback_next hu
  · exact absurd hgrant (grantedOwner_ne_copper hcop)
  · rw [stepOneWord_agnus]; exact ⟨rfl, rfl⟩
  · exact ⟨rfl, rfl⟩

theorem copperClaims_of_idle {i : CycleInputs} {s : State} (h : s.cop.active = false) :
    copperClaims (beginCycle i s) = false := by
  simp [copperClaims, h]

theorem advances_of_idle (is : List CycleInputs) {s : State} (h : s.cop.active = false) :
    ∃ t, advances is s = .next t := by
  induction is generalizing s with
  | nil => exact ⟨s, rfl⟩
  | cons i is ih =>
    obtain ⟨u, hu, hidle⟩ := advanceOneCycle_idle i h
    obtain ⟨t, ht⟩ := ih hidle
    exact ⟨t, advances_cons_next.2 ⟨u, hu, ht⟩⟩

/-- The parity that `Frame.next` keeps while interlace is on: the frame's number and its flip-flop change together. -/
def framePhase (f : Frame) : Nat := f.isLongFrame.toNat + f.sequenceNumber

/-- One cycle with interlace on and the Copper idle keeps both, and the phase of the frames modulo 2. -/
theorem advance_interlaced {i : CycleInputs} {s t : State} (h : exec (.advance i) s = .next t)
    (hon : s.agnus.interlaceEnabled = true) (hidle : s.cop.active = false) :
    t.agnus.interlaceEnabled = true ∧ t.cop.active = false
      ∧ s.frame.sequenceNumber ≤ t.frame.sequenceNumber ∧ framePhase t.frame % 2 = framePhase s.frame % 2 := by
  obtain ⟨u, hu, hidle'⟩ := advanceOneCycle_idle i hidle
  cases hu.symm.trans h
  obtain ⟨-, hkept⟩ := advance_control_of_unclaimed h (copperClaims_of_idle hidle)
  refine ⟨hkept.trans hon, hidle', ?_⟩
  rw [advance_frame h, hon]
  cases hw : wraps s with
  | false => exact ⟨le_rfl, rfl⟩
  | true => cases hl : s.frame.isLongFrame <;> simp [framePhase, frameNext, hl] <;> omega

theorem advances_interlaced {is : List CycleInputs} {s t : State} (h : advances is s = .next t)
    (hon : s.agnus.interlaceEnabled = true) (hidle : s.cop.active = false) :
    s.frame.sequenceNumber ≤ t.frame.sequenceNumber ∧ framePhase t.frame % 2 = framePhase s.frame % 2 := by
  induction is generalizing s with
  | nil => cases h; exact ⟨le_rfl, rfl⟩
  | cons i is ih =>
    obtain ⟨u, hu, ht⟩ := advances_cons_next.1 h
    obtain ⟨hon', hidle', hle, hphase⟩ := advance_interlaced hu hon hidle
    obtain ⟨hle', hphase'⟩ := ih ht hon' hidle'
    exact ⟨hle.trans hle', hphase'.trans hphase⟩

theorem numLines_eq (f : Frame) : numLines f = 312 + f.isLongFrame.toNat := by
  unfold numLines
  cases f.isLongFrame <;> rfl

/-- Settles O20: with interlace on the flip-flop's parity and that of the frame's number change together
(`advances_interlaced`), and a frame has its 313th line exactly when the flip-flop is set (`numLines_eq`). -/
theorem interlaceAlternatesFrameLengths : Obligations.InterlaceAlternatesFrameLengths := by
  intro is s hon hidle
  obtain ⟨t, ht⟩ := advances_of_idle is hidle
  obtain ⟨hle, hphase⟩ := advances_interlaced ht hon hidle
  have hs : (if s.frame.isLongFrame then 1 else 0) = s.frame.isLongFrame.toNat := by cases s.frame.isLongFrame <;> rfl
  have hbit := Bool.toNat_le t.frame.isLongFrame
  refine ⟨t, ht, hle, ?_, ?_⟩
  · rw [numLines_eq, hs]
    unfold framePhase at hphase
    omega
  · rw [numLines_eq]
    cases t.frame.isLongFrame <;> simp

end Sys2Proof.Machine
end

section
/-! PROOFS. Arbitration (40_agnus.md R139 to R145): the beam condition of a held WAIT as numbers (41_copper.md R185), the
order of the candidates in a row of the slot table, and the first of them that claims. -/

namespace Sys2Proof.Machine

/-! ### The beam condition as numbers (41_copper.md R185) -/

theorem vMask_toNat (x : BeamTarget) : (vMask x).toNat = 128 + x.ve.toNat := by
  rw [vMask, BitVec.toNat_append, ← Nat.shiftLeft_add_eq_or_of_lt x.ve.isLt, Nat.shiftLeft_eq]
  rfl

/-- A field with a 0 bit put below it is doubled. -/
theorem append_zero_toNat {w : Nat} (x : BitVec w) : (x ++ 0#1).toNat = 2 * x.toNat := by
  rw [BitVec.toNat_append, ← Nat.shiftLeft_add_eq_or_of_lt (0#1).isLt, Nat.shiftLeft_eq]
  simp [Nat.mul_comm]

theorem hMask_toNat (x : BeamTarget) : (hMask x).toNat = 2 * x.he.toNat := append_zero_toNat x.he

theorem hTarget_toNat (x : BeamTarget) : (hTarget x).toNat = 2 * x.hp.toNat := append_zero_toNat x.hp

/-- A beam comparison sees only the low byte of the line. -/
theorem lineByte_toNat (line : BitVec 9) : (line.extractLsb' 0 8).toNat = line.toNat % 256 := by simp

/-- A beam comparison sees only even cycles. -/
theorem evenCycle_toNat (cycle : BitVec 8) : cycle.toNat &&& (0xFE : Byte).toNat = 2 * (cycle.toNat / 2) :=
  (BitVec.toNat_and cycle 0xFE).symm.trans (toNat_and_not_one cycle)

/-- `beamReached` in numbers: the masked line is past the target's, or is the target's with the masked cycle reached. -/
theorem beamReached_eq (x : BeamTarget) (line : BitVec 9) (cycle : BitVec 8) :
    beamReached x line cycle =
      decide (x.vp.toNat &&& (128 + x.ve.toNat) < (line.toNat % 256) &&& (128 + x.ve.toNat)
        ∨ ((line.toNat % 256) &&& (128 + x.ve.toNat) = x.vp.toNat &&& (128 + x.ve.toNat)
          ∧ (2 * x.hp.toNat) &&& (2 * x.he.toNat) ≤ (2 * (cycle.toNat / 2)) &&& (2 * x.he.toNat))) := by
  have heq (a b : Byte) : (a == b) = decide (a.toNat = b.toNat) := by
    rw [beq_eq_decide, decide_eq_decide, BitVec.toNat_inj]
  simp only [beamReached, heq, BitVec.toNat_and, vMask_toNat, hMask_toNat, hTarget_toNat, lineByte_toNat,
    evenCycle_toNat, Bool.decide_or, Bool.decide_and, gt_iff_lt, ge_iff_le]

theorem beamTargetOf_vp (ir1 ir2 : Word) : (beamTargetOf ir1 ir2).vp.toNat = ir1.toNat / 256 := by
  have := ir1.isLt
  simp [beamTargetOf, Nat.shiftRight_eq_div_pow]
  omega

theorem beamTargetOf_hp (ir1 ir2 : Word) : (beamTargetOf ir1 ir2).hp.toNat = ir1.toNat / 2 % 128 := by
  simp [beamTargetOf, Nat.shiftRight_eq_div_pow]

theorem beamTargetOf_ve (ir1 ir2 : Word) : (beamTargetOf ir1 ir2).ve.toNat = ir2.toNat / 256 % 128 := by
  simp [beamTargetOf, Nat.shiftRight_eq_div_pow]

theorem beamTargetOf_he (ir1 ir2 : Word) : (beamTargetOf ir1 ir2).he.toNat = ir2.toNat / 2 % 128 := by
  simp [beamTargetOf, Nat.shiftRight_eq_div_pow]

/-- The bit that tells a WAIT not to look at the Blitter is the top bit of IR2. -/
theorem beamTargetOf_bfd (ir1 ir2 : Word) : (beamTargetOf ir1 ir2).bfd = decide (32768 ≤ ir2.toNat) :=
  BitVec.msb_eq_decide ir2

/-! ### The row of a position (R142) -/

/-- Every row of a valid configuration's slot table is well-formed. -/
theorem slotTable_wf {cfg : Config} (h : cfg.valid = true) (line cycle : Nat) :
    slotRowWf (slotTable cfg line cycle) = true := by
  simp only [Config.valid, Bool.and_eq_true] at h
  obtain ⟨⟨⟨⟨⟨hdefault, hrows⟩, -⟩, -⟩, -⟩, -⟩ := h
  rw [slotTable]
  generalize cfg.slotRows = rows at hrows
  induction rows with
  | nil => exact hdefault
  | cons r rest ih =>
    obtain ⟨hr, hrest⟩ := Bool.and_eq_true_iff.1 ((List.all_cons ..).symm.trans hrows)
    rw [slotRowAt]
    split
    · exact hr
    · exact ih hrest

theorem slotRowWf_iff {row : List Owner} :
    slotRowWf row = true ↔ row.Nodup ∧ beforeBlitter .copper row = true ∧ beforeBlitter .cpu row = true := by
  simp [slotRowWf, and_assoc]

/-- W2 and W3 in a row cut at the Blitter: what is to come before it stands in the first part. -/
theorem mem_of_beforeBlitter {x : Owner} {before after : List Owner} (h : beforeBlitter x (before ++ .blitter :: after) = true)
    (hx : x ∈ before ++ .blitter :: after) : x ∈ before := by
  by_contra hnot
  have hidx : (before ++ .blitter :: after).idxOf x < (before ++ .blitter :: after).idxOf .blitter := by
    simpa [beforeBlitter, hx] using h
  rw [List.idxOf_append_of_notMem hnot] at hidx
  have : (before ++ .blitter :: after).idxOf .blitter ≤ before.length := by
    by_cases hb : .blitter ∈ before
    · rw [List.idxOf_append_of_mem hb]; exact List.idxOf_le_length
    · simp [List.idxOf_append_of_notMem hb]
  omega

/-! ### The effective list (R143) -/

theorem candidates_eq_row {n : Bool} {row : List Owner} (h : n = false ∨ .cpu ∉ row ∨ .blitter ∉ row) :
    candidates n row = row := by
  refine if_neg fun hmoves => ?_
  simp only [Bool.and_eq_true, List.contains_iff_mem] at hmoves
  obtain ⟨⟨hn, hcpu⟩, hblt⟩ := hmoves
  obtain rfl | hno | hno := h
  · cases hn
  · exact hno hcpu
  · exact hno hblt

/-- Putting the CPU behind the Blitter does nothing to owners before or after the Blitter. -/
theorem flatMap_without_blitter {row : List Owner} (h : .blitter ∉ row) :
    row.flatMap (fun o => if o = .blitter then [.blitter, .cpu] else [o]) = row := by
  induction row with
  | nil => rfl
  | cons o rest ih =>
    obtain ⟨hne, hrest⟩ := not_or.1 (List.mem_cons.not.1 h)
    rw [List.flatMap_cons, ih hrest, if_neg (Ne.symm hne)]
    rfl

/-- The row without the CPU. -/
abbrev withoutCpu (row : List Owner) : List Owner := row.filter (fun o => o != .cpu)

theorem not_mem_withoutCpu {o : Owner} {row : List Owner} (h : o ∉ row) : o ∉ withoutCpu row :=
  fun ho => h (List.mem_of_mem_filter ho)

theorem blitter_not_mem_before {before after : List Owner} (hnodup : (before ++ .blitter :: after).Nodup) :
    .blitter ∉ before := fun h =>
  (List.nodup_append.1 hnodup).2.2 _ h _ List.mem_cons_self rfl

/-- In nasty mode a row cut at its Blitter keeps both parts without the CPU, and the CPU follows the Blitter. -/
theorem candidates_nasty {before after : List Owner} (hnodup : (before ++ .blitter :: after).Nodup)
    (hcpu : .cpu ∈ before ++ .blitter :: after) :
    candidates true (before ++ .blitter :: after) = withoutCpu before ++ .blitter :: .cpu :: withoutCpu after := by
  have hb := blitter_not_mem_before hnodup
  have ha : .blitter ∉ after := (List.nodup_cons.1 (List.nodup_append.1 hnodup).2.1).1
  have hmoves : candidates true (before ++ .blitter :: after) = cpuAfterBlitter (before ++ .blitter :: after) :=
    if_pos (by simpa using hcpu)
  rw [hmoves, cpuAfterBlitter, List.filter_append, List.flatMap_append, flatMap_without_blitter (not_mem_withoutCpu hb),
    List.filter_cons_of_pos (by decide), List.flatMap_cons, flatMap_without_blitter (not_mem_withoutCpu ha)]
  rfl

/-- Settles O12: the row is cut at its Blitter, and the two parts keep their order (`candidates_nasty`). -/
theorem nastyMovesOnlyTheCpu : Obligations.NastyMovesOnlyTheCpu := by
  intro row hnodup
  refine ⟨candidates_eq_row (.inl rfl), fun n hmissing => candidates_eq_row (.inr hmissing), fun hcpu hblt => ?_⟩
  obtain ⟨before, after, rfl⟩ := List.append_of_mem hblt
  refine ⟨withoutCpu before, withoutCpu after, candidates_nasty hnodup hcpu, ?_⟩
  rw [List.filter_append, List.filter_cons_of_pos (by decide)]

/-- A row cut at its Blitter stays cut there, with all but the CPU where it was, and the CPU too unless nasty. -/
theorem candidates_cut {before after : List Owner} (n : Bool) (hnodup : (before ++ .blitter :: after).Nodup) :
    ∃ before' after', candidates n (before ++ .blitter :: after) = before' ++ .blitter :: after' ∧ .blitter ∉ before'
      ∧ ∀ x ∈ before, x ≠ .cpu ∨ n = false → x ∈ before' := by
  have hblt := blitter_not_mem_before hnodup
  by_cases hstays : n = false ∨ .cpu ∉ before ++ .blitter :: after
  · exact ⟨before, after, candidates_eq_row (hstays.imp_right .inl), hblt, fun x hx _ => hx⟩
  · obtain ⟨hnasty, hcpu⟩ := not_or.1 hstays
    obtain rfl := Bool.eq_true_of_not_eq_false hnasty
    refine ⟨_, _, candidates_nasty hnodup (not_not.1 hcpu), not_mem_withoutCpu hblt, fun x hx hmoved => ?_⟩
    exact List.mem_filter.2 ⟨hx, bne_iff_ne.2 (hmoved.resolve_right hnasty)⟩

/-- No owner is a candidate that the row does not list. -/
theorem mem_of_mem_candidates {n : Bool} {row : List Owner} {o : Owner} (h : o ∈ candidates n row) : o ∈ row := by
  unfold candidates at h
  split at h
  · rename_i hmoves
    simp only [Bool.and_eq_true, List.contains_iff_mem] at hmoves
    obtain ⟨⟨-, hcpu⟩, hblt⟩ := hmoves
    obtain ⟨p, hp, ho⟩ := List.mem_flatMap.1 h
    split at ho
    · obtain rfl | rfl := List.mem_pair.1 ho
      · exact hblt
      · exact hcpu
    · obtain rfl := List.mem_singleton.1 ho
      exact List.mem_of_mem_filter hp
  · exact h

/-! ### The grant (R145) -/

/-- Nothing that stands before a granted Blitter in the candidate list claims. -/
theorem not_claims_of_before_blitter {i : CycleInputs} {s : State} {x : Owner} {before after : List Owner}
    (hg : grantedOwner i s = some .blitter)
    (hcand : candidates (nasty s) (slotTable s.cfg s.line.toNat s.cycle.toNat) = before ++ .blitter :: after)
    (hblt : .blitter ∉ before) (hx : x ∈ before) : claims i s x = false := by
  rw [grantedOwner, hcand, List.find?_append] at hg
  cases hfirst : before.find? (claims i s) with
  | none => simpa using List.find?_eq_none.1 hfirst x hx
  | some o =>
    rw [hfirst] at hg
    cases hg
    exact absurd (List.mem_of_find?_eq_some hfirst) hblt

/-- What the row lists before the Blitter does not claim where the Blitter is granted; of the CPU this holds unless nasty
mode has moved it. -/
theorem not_claims_of_granted_blitter {i : CycleInputs} {s : State} {x : Owner} (hvalid : s.cfg.valid = true)
    (hg : grantedOwner i s = some .blitter) (hx : x ∈ slotTable s.cfg s.line.toNat s.cycle.toNat)
    (horder : beforeBlitter x (slotTable s.cfg s.line.toNat s.cycle.toNat) = true) (hmoved : x ≠ .cpu ∨ nasty s = false) :
    claims i s x = false := by
  obtain ⟨hnodup, -, -⟩ := slotRowWf_iff.1 (slotTable_wf hvalid s.line.toNat s.cycle.toNat)
  have hblt := mem_of_mem_candidates (grantedOwner_some hg).2
  obtain ⟨before, after, hrow⟩ := List.append_of_mem hblt
  rw [hrow] at hnodup hx horder
  obtain ⟨before', after', hcand, hblt', hkept⟩ := candidates_cut (nasty s) hnodup
  exact not_claims_of_before_blitter hg (hrow ▸ hcand) hblt' (hkept x (mem_of_beforeBlitter horder hx) hmoved)

/-- Settles O13: by W2 and W3 the Copper and the CPU stand before the Blitter in the row (R142), and nothing that does so
claims where the Blitter is granted (`not_claims_of_granted_blitter`). -/
theorem blitterYieldsToCopperAndCpu : Obligations.BlitterYieldsToCopperAndCpu := by
  intro i s hvalid hg
  obtain ⟨-, hcopper, hcpu⟩ := slotRowWf_iff.1 (slotTable_wf hvalid s.line.toNat s.cycle.toNat)
  exact ⟨(grantedOwner_some hg).1,
    fun hin => not_claims_of_granted_blitter hvalid hg hin hcopper (.inl (by decide)),
    fun hnice hin => not_claims_of_granted_blitter hvalid hg hin hcpu (.inr hnice)⟩

/-- The slot is idle exactly when no candidate claims (R148). -/
theorem grantedOwner_eq_none_iff {i : CycleInputs} {s : State} :
    grantedOwner i s = none
      ↔ ∀ o ∈ candidates (nasty s) (slotTable s.cfg s.line.toNat s.cycle.toNat), claims i s o = false := by
  simp [grantedOwner]

/-- The owner is the first candidate that claims. -/
theorem grantedOwner_eq_some_iff {i : CycleInputs} {s : State} {o : Owner} :
    grantedOwner i s = some o ↔ ∃ before after,
      candidates (nasty s) (slotTable s.cfg s.line.toNat s.cycle.toNat) = before ++ o :: after
        ∧ claims i s o = true ∧ ∀ x ∈ before, claims i s x = false := by
  rw [grantedOwner, List.find?_eq_some_iff_append]
  simp only [Bool.not_eq_true']
  constructor
  · rintro ⟨ho, before, after, hcand, hbefore⟩
    exact ⟨before, after, hcand, ho, hbefore⟩
  · rintro ⟨before, after, hcand, ho, hbefore⟩
    exact ⟨ho, before, after, hcand, hbefore⟩

/-- Settles O11: the claims of the position reached read the inputs, the DMA control and the two coprocessors as the cycle
found them, the Copper's in numbers by `beamReached_eq`; the owner is the first claimant, and the callback leaves it. -/
theorem grantGoesToTheFirstClaimant : Obligations.GrantGoesToTheFirstClaimant := by
  intro i s
  refine ⟨rfl, rfl, rfl, rfl, ?_, grantedOwner_eq_none_iff, fun o => grantedOwner_eq_some_iff, fun t h => ?_⟩
  · simp only [copperClaims, copperEnabled, waitSatisfied, targetReached, beamReached_eq, beamTargetOf_vp, beamTargetOf_hp,
      beamTargetOf_ve, beamTargetOf_he, beamTargetOf_bfd, beginCycle_cop, beginCycle_blt, beginCycle_dmacon]
  · rw [advance_agnus h]; rfl

end Sys2Proof.Machine
end

section
/-! PROOFS. The chipset registers of Agnus (40_agnus.md section 7): DMACON and BPLCON0 bit by bit (R156, R157), the words
of the three readable registers as numbers (R153 to R155), and the refused raster position writes (R158). -/

namespace Sys2Proof.Machine

/-! ### The control registers -/

/-- A write of DMACON gives each bit the value names the value's bit 15. -/
theorem getLsbD_dmaconAfter (dmacon : BitVec 11) (v : Word) {k : Nat} (h : k < 11) :
    (dmaconAfter dmacon v).getLsbD k = if v.getLsbD k then v.getLsbD 15 else dmacon.getLsbD k := by
  unfold dmaconAfter
  cases hset : v.getLsbD 15 <;> cases hk : v.getLsbD k <;> simp [h, hk]

/-- Bit 2 of a value is the interlace enable as BPLCON0 reads it. -/
theorem getLsbD_two_eq (v : Word) : v.getLsbD 2 = decide (v.toNat / 4 % 2 = 1) := Nat.testBit_eq_decide_div_mod_eq

/-- Settles O27: the set/clear protocol bit by bit (`getLsbD_dmaconAfter`), and the bit of BPLCON0. -/
theorem dmaconAndBplcon0Writes : Obligations.DmaconAndBplcon0Writes := by
  intro src v s
  refine ⟨⟨dmaconAfter s.agnus.dmacon v, fun k hk => getLsbD_dmaconAfter _ v hk, rfl⟩, ?_⟩
  rw [← getLsbD_two_eq]
  rfl

/-! ### The readable registers as numbers -/

/-- A flag put at bit `k` above a smaller number adds `2 ^ k`. -/
theorem or_gated_toNat {w k : Nat} {x : BitVec w} (c : Bool) (hk : k < w) (h : x.toNat < 2 ^ k) :
    (x ||| gated c (BitVec.twoPow w k)).toNat = x.toNat + 2 ^ k * c.toNat := by
  cases c with
  | false => simp [gated]
  | true =>
    have hor : 2 ^ k * 1 + x.toNat = 2 ^ k * 1 ||| x.toNat := Nat.two_pow_add_eq_or_of_lt h 1
    rw [gated, if_pos rfl, BitVec.toNat_or, BitVec.toNat_twoPow_of_lt hk, Bool.toNat_true, Nat.add_comm, hor,
      Nat.mul_one, Nat.or_comm]

theorem dmaconrValue_toNat (s : State) :
    (dmaconrValue s).toNat = s.agnus.dmacon.toNat + 16384 * s.blt.busyFlag.toNat + 8192 * s.blt.zeroFlag.toNat := by
  have hdma := s.agnus.dmacon.isLt
  have hbit := Bool.toNat_le s.blt.zeroFlag
  have hlow : (s.agnus.dmacon.setWidth 16).toNat = s.agnus.dmacon.toNat := BitVec.toNat_setWidth_of_le (by decide)
  have hzero : (s.agnus.dmacon.setWidth 16 ||| gated s.blt.zeroFlag 0x2000).toNat
      = s.agnus.dmacon.toNat + 2 ^ 13 * s.blt.zeroFlag.toNat :=
    (or_gated_toNat (k := 13) s.blt.zeroFlag (by decide) (by omega)).trans (by rw [hlow])
  have hbusy : (s.agnus.dmacon.setWidth 16 ||| gated s.blt.zeroFlag 0x2000 ||| gated s.blt.busyFlag 0x4000).toNat
      = s.agnus.dmacon.toNat + 2 ^ 13 * s.blt.zeroFlag.toNat + 2 ^ 14 * s.blt.busyFlag.toNat :=
    (or_gated_toNat (k := 14) s.blt.busyFlag (by decide) (by omega)).trans (by rw [hzero])
  rw [dmaconrValue, BitVec.or_assoc, BitVec.or_comm (gated _ _), ← BitVec.or_assoc, hbusy]
  omega

/-- Bit 8 of the line is its part above 255. -/
theorem lineBit8_toNat (line : BitVec 9) : (gated (line.getLsbD 8) (1 : Word)).toNat = line.toNat / 256 := by
  have hlt := line.isLt
  have hbit : line.getLsbD 8 = decide (line.toNat / 256 % 2 = 1) := Nat.testBit_eq_decide_div_mod_eq
  rw [hbit, gated]
  split
  · rename_i h
    rw [decide_eq_true_eq] at h
    change 1 = _
    omega
  · rename_i h
    rw [decide_eq_true_eq] at h
    change 0 = _
    omega

theorem vposrValue_toNat (s : State) :
    (vposrValue s).toNat = 32768 * s.frame.isLongFrame.toNat + s.line.toNat / 256 := by
  have hline := s.line.isLt
  have hlow := lineBit8_toNat s.line
  rw [vposrValue, BitVec.or_comm, Nat.add_comm, ← hlow]
  exact or_gated_toNat (k := 15) s.frame.isLongFrame (by decide) (by omega)

theorem vhposrValue_toNat (s : State) : (vhposrValue s).toNat = 256 * (s.line.toNat % 256) + s.cycle.toNat := by
  rw [vhposrValue, toNat_wordOf, lineByte_toNat]

/-- Settles O28: each read puts its register's word in the result, which is the number of the spec. -/
theorem statusAndPositionReads : Obligations.StatusAndPositionReads := fun s =>
  ⟨⟨_, dmaconrValue_toNat s, rfl⟩, ⟨_, vposrValue_toNat s, rfl⟩, ⟨_, vhposrValue_toNat s, rfl⟩⟩

/-! ### The raster position writes -/

/-- Settles O29: both rows refuse, and REGWRITE of either address is its row (`regWrite_of_row`). -/
theorem rasterPositionWritesAreRefused : Obligations.RasterPositionWritesAreRefused := by
  intro src v s
  have hvposw : regWrite .host 0x02A v s = exec (.vposw .host v) s := regWrite_of_row s rfl
  have hvhposw : regWrite .host 0x02C v s = exec (.vhposw .host v) s := regWrite_of_row s rfl
  exact ⟨rfl, rfl, hvposw, hvhposw⟩

end Sys2Proof.Machine
end

section
/-! PROOFS. The Copper (41_copper.md): what a granted and an unclaimed cycle do (R172 to R178), MOVE and the register bus
behind it (R180 to R182), the beam condition of WAIT and SKIP (R183 to R187, R199), the Copper's own registers (R189 to
R196), and what can arm the Copper or change its danger bit (R177, R181). -/

namespace Sys2Proof.Machine

/-! ### The owner's callback (40_agnus.md R146) -/

theorem ownerCallback_of_copper {s : State} (h : s.agnus.busOwner = some .copper) : ownerCallback s = copperTick s := by
  rw [ownerCallback, h]

theorem ownerCallback_of_blitter {s : State} (h : s.agnus.busOwner = some .blitter) :
    ownerCallback s = .next (stepOneWord s) := by
  rw [ownerCallback, h]

theorem ownerCallback_of_other {s : State} (hcop : s.agnus.busOwner ≠ some .copper)
    (hblt : s.agnus.busOwner ≠ some .blitter) : ownerCallback s = .next s := by
  unfold ownerCallback
  split
  · exact absurd ‹_› hcop
  · exact absurd ‹_› hblt
  · rfl

/-- The Copper's execute stage is the meaning of the instruction it decodes (R175). -/
theorem copperExecute_eq_exec (s : State) :
    copperExecute s = exec (decodeCopper s.cop.ir1 s.cop.lastInstructionWord) s := by
  obtain ⟨ra, dw, hdec, h⟩ | ⟨x, hdec, h⟩ | ⟨x, hdec, h⟩ := copperExecute_cases s <;> rw [h, hdec] <;> rfl

/-! ### A cycle by its owner -/

section
variable {i : CycleInputs} {s : State}

/-- A cycle is the callback of the owner granted at the position reached, then sub-steps 6 and 7. -/
theorem exec_advance_eq (i : CycleInputs) (s : State) :
    exec (.advance i) s = andThen (ownerCallback (reached i s)) (fun u => .next (endCycle i u)) := rfl

theorem exec_advance_of_copper (h : (reached i s).agnus.busOwner = some .copper) :
    exec (.advance i) s
      = andThen (copperExecute (copperFetch (reached i s))) (fun u => .next (endCycle i u)) := by
  rw [exec_advance_eq, ownerCallback_of_copper h]; rfl

theorem exec_advance_of_blitter (h : (reached i s).agnus.busOwner = some .blitter) :
    exec (.advance i) s = .next (endCycle i (stepOneWord (reached i s))) := by
  rw [exec_advance_eq, ownerCallback_of_blitter h, andThen_of_next]

theorem exec_advance_of_other (hcop : (reached i s).agnus.busOwner ≠ some .copper)
    (hblt : (reached i s).agnus.busOwner ≠ some .blitter) :
    exec (.advance i) s = .next (endCycle i (reached i s)) := by
  rw [exec_advance_eq, ownerCallback_of_other hcop hblt, andThen_of_next]

/-- Only a granted Copper works on the Copper and emits events; every other cycle completes. -/
theorem exec_advance_of_not_copper (hcop : (reached i s).agnus.busOwner ≠ some .copper) :
    ∃ t, exec (.advance i) s = .next t ∧ t.cop = s.cop ∧ t.events = s.events := by
  by_cases hblt : (reached i s).agnus.busOwner = some .blitter
  · refine ⟨_, exec_advance_of_blitter hblt, ?_, ?_⟩
    · rw [endCycle_cop, stepOneWord_cop]; rfl
    · rw [endCycle_events, stepOneWord_events]; rfl
  · refine ⟨_, exec_advance_of_other hcop hblt, ?_, ?_⟩
    · rw [endCycle_cop]; rfl
    · rw [endCycle_events]; rfl

theorem exec_advance_of_unclaimed (h : copperClaims (beginCycle i s) = false) :
    ∃ t, exec (.advance i) s = .next t ∧ t.cop = s.cop ∧ t.events = s.events :=
  exec_advance_of_not_copper (grantedOwner_ne_copper h)

end

/-- Settles O10: one equation for each owner; the Copper's execute stage is `exec` of the words it fetched. -/
theorem advanceRunsTheGrantedOwner : Obligations.AdvanceRunsTheGrantedOwner := by
  intro i s
  refine ⟨fun hcop => ?_, exec_advance_of_blitter, exec_advance_of_other⟩
  rw [exec_advance_of_copper hcop, copperExecute_eq_exec]
  rfl

/-- Settles O16: a Copper that does not claim is not granted (`grantedOwner_ne_copper`), and no other owner's work reaches
the Copper, the events or Agnus's control bits. -/
theorem unclaimedCycleLeavesTheCopper : Obligations.UnclaimedCycleLeavesTheCopper := by
  intro i s hclaim
  obtain ⟨t, ht, hcop, hevents⟩ := exec_advance_of_unclaimed hclaim
  obtain ⟨hdmacon, hinterlace⟩ := advance_control_of_unclaimed ht hclaim
  have howner : t.agnus.busOwner = grantedOwner i (beginCycle i s) := by rw [advance_agnus ht]
  exact ⟨t, ht, hcop, hevents, howner ▸ grantedOwner_ne_copper hclaim, hdmacon, hinterlace⟩

/-! ### The beam condition (R185) -/

/-- The full cycle mask compares every bit of an even cycle. -/
theorem two_mul_and_fullMask {m : Nat} (h : m < 128) : 2 * m &&& 254 = 2 * m := by
  have heven := evenCycle_toNat (BitVec.ofNat 8 (2 * m))
  rw [BitVec.toNat_ofNat, Nat.mod_eq_of_lt (by omega)] at heven
  exact heven.trans (by omega)

/-- A cycle mask has bit 0 clear, so it sees a cycle as the even cycle. -/
theorem evenCycle_and_hMask (cycle : BitVec 8) (he : BitVec 7) :
    2 * (cycle.toNat / 2) &&& (2 * he.toNat) = cycle.toNat &&& (2 * he.toNat) := by
  have hmask : 254 &&& 2 * he.toNat = 2 * he.toNat := (Nat.and_comm _ _).trans (two_mul_and_fullMask he.isLt)
  have heven : cycle.toNat &&& 254 = 2 * (cycle.toNat / 2) := evenCycle_toNat cycle
  rw [← heven, Nat.and_assoc, hmask]

/-- Line before cycle is the order of one number, the masked cycle taking the low eight bits. -/
theorem lexicographic_iff {a b c d : Nat} (hb : b < 256) (hd : d < 256) :
    256 * a + b ≤ 256 * c + d ↔ a < c ∨ (c = a ∧ b ≤ d) := by omega

theorem beamReached_eq_position (x : BeamTarget) (line : BitVec 9) (cycle : BitVec 8) :
    beamReached x line cycle =
      decide (256 * (x.vp.toNat &&& (128 + x.ve.toNat)) + ((2 * x.hp.toNat) &&& (2 * x.he.toNat))
        ≤ 256 * ((line.toNat % 256) &&& (128 + x.ve.toNat)) + (cycle.toNat &&& (2 * x.he.toNat))) := by
  have hmask : 2 * x.he.toNat < 256 := by have := x.he.isLt; omega
  rw [beamReached_eq, evenCycle_and_hMask, decide_eq_decide,
    lexicographic_iff (Nat.and_le_right.trans_lt hmask) (Nat.and_le_right.trans_lt hmask)]

/-- With both masks full the beam condition compares the low byte of the line, then the cycle, with the target. -/
theorem beamReached_fullMask {x : BeamTarget} (hve : x.ve = 0x7F) (hhe : x.he = 0x7F) (line : BitVec 9)
    (cycle : BitVec 8) :
    beamReached x line cycle = true ↔
      x.vp.toNat < line.toNat % 256 ∨ (line.toNat % 256 = x.vp.toNat ∧ 2 * x.hp.toNat ≤ cycle.toNat) := by
  have hvp := x.vp.isLt
  have hcycle := cycle.isLt
  have hline (n : Nat) (hn : n < 256) : n &&& (128 + (0x7F : BitVec 7).toNat) = n :=
    (Nat.and_two_pow_sub_one_eq_mod n 8).trans (Nat.mod_eq_of_lt hn)
  have heven (m : Nat) (hm : m < 128) : 2 * m &&& (2 * (0x7F : BitVec 7).toNat) = 2 * m := two_mul_and_fullMask hm
  rw [beamReached_eq, decide_eq_true_eq, hve, hhe, hline _ hvp, hline _ (Nat.mod_lt _ (by decide)),
    heven _ x.hp.isLt, heven _ (by omega)]
  omega

/-- Settles O22: WAIT and SKIP branch on `targetReached`, whose beam condition is the comparison of positions
(`beamReached_eq_position`). -/
theorem waitAndSkipFollowTheBeam : Obligations.WaitAndSkipFollowTheBeam := by
  intro x s vM hM beam satisfied
  have hreached : targetReached x s = satisfied := by rw [targetReached, beamReached_eq_position]
  constructor
  · change execWait x s = _
    rw [execWait, hreached, apply_ite Host.Outcome.next]
  · change execSkip x s = _
    rw [execSkip, hreached, apply_ite Host.Outcome.next]

/-! ### A held WAIT (R184, R187, R199) -/

/-- A sleeping Copper claims while it is enabled and active and its held WAIT is satisfied at the position reached. -/
theorem copperClaims_of_waiting {i : CycleInputs} {s : State} {ir1 ir2 : Word} (hwait : s.cop.waiting = true)
    (hir1 : s.cop.ir1 = ir1) (hir2 : s.cop.lastInstructionWord = ir2) :
    copperClaims (beginCycle i s) = (copperEnabled s && s.cop.active && waitSatisfied ir1 ir2 (beginCycle i s)) := by
  simp [copperClaims, copperEnabled, hwait, hir1, hir2]

/-- No position of the raster is past line 255 modulo 256, cycle 254, the target of END. -/
theorem end_not_satisfied (i : CycleInputs) (s : State) : waitSatisfied 0xFFFF 0xFFFE (beginCycle i s) = false := by
  have hcycle : (beginCycle i s).cycle.toNat < 227 := nextCycle_lt s
  have hbeam : ¬ beamReached (beamTargetOf 0xFFFF 0xFFFE) (beginCycle i s).line (beginCycle i s).cycle = true := by
    rw [beamReached_fullMask rfl rfl]
    change ¬ (255 < _ ∨ (_ ∧ 254 ≤ _))
    omega
  rw [waitSatisfied, targetReached, Bool.eq_false_iff.2 hbeam, Bool.false_and]

theorem copperClaims_of_end {i : CycleInputs} {s : State} (hwait : s.cop.waiting = true) (hir1 : s.cop.ir1 = 0xFFFF)
    (hir2 : s.cop.lastInstructionWord = 0xFFFE) : copperClaims (beginCycle i s) = false := by
  rw [copperClaims_of_waiting hwait hir1 hir2, end_not_satisfied, Bool.and_false]

/-- Settles O18, by induction on the cycles: a Copper that holds END never claims (`copperClaims_of_end`), so each cycle
completes and leaves it holding END. -/
theorem endParksTheCopper : Obligations.EndParksTheCopper := by
  intro is
  induction is with
  | nil => intro s _ _ _; exact ⟨s, rfl, rfl, rfl⟩
  | cons i is ih =>
    intro s hwait hir1 hir2
    obtain ⟨u, hu, hcop, hevents⟩ := exec_advance_of_unclaimed (i := i) (copperClaims_of_end hwait hir1 hir2)
    rw [← hcop] at hwait hir1 hir2
    obtain ⟨t, ht, hcop', hevents'⟩ := ih u hwait hir1 hir2
    exact ⟨t, advances_cons_next.2 ⟨u, hu, ht⟩, hcop'.trans hcop, hevents'.trans hevents⟩

/-! ### The Copper's registers (R189 to R195) -/

theorem longOf_toNat (hi lo : Word) : (longOf hi lo).toNat = 65536 * hi.toNat + lo.toNat := by
  rw [longOf, BitVec.toNat_append, ← Nat.shiftLeft_add_eq_or_of_lt lo.isLt, Nat.shiftLeft_eq]
  omega

theorem setHighHalf_toNat (p : Long) (v : Word) : (setHighHalf p v).toNat = 65536 * v.toNat + p.toNat % 65536 := by
  rw [setHighHalf, longOf_toNat, longLo, BitVec.extractLsb'_toNat, Nat.shiftRight_zero]

theorem setLowHalf_toNat (p : Long) (v : Word) : (setLowHalf p v).toNat = 65536 * (p.toNat / 65536) + v.toNat := by
  have := p.isLt
  rw [setLowHalf, longOf_toNat, longHi, BitVec.extractLsb'_toNat, Nat.shiftRight_eq_div_pow]
  omega

/-- Settles O24: each half write as a number (`setHighHalf_toNat`, `setLowHalf_toNat`), and bit 1 of the value. -/
theorem copperRegisterWrites : Obligations.CopperRegisterWrites := by
  intro src v s
  have hdanger : v.getLsbD 1 = decide (v.toNat / 2 % 2 = 1) := Nat.testBit_eq_decide_div_mod_eq
  refine ⟨⟨_, setHighHalf_toNat _ v, rfl⟩, ⟨_, setLowHalf_toNat _ v, rfl⟩, ⟨_, setHighHalf_toNat _ v, rfl⟩,
    ⟨_, setLowHalf_toNat _ v, rfl⟩, ?_⟩
  rw [← hdanger]
  rfl

/-- A restart arms the Copper, but for its own jump to a zero base (R196). -/
theorem restartCopper_eq (c : Copper) (n : ListId) (src : Master) :
    restartCopper c n src =
      { c with
        activeListId := n, programCounter := listBase c n, waiting := false
        active := decide (¬(src = .copper ∧ listBase c n = 0)) } := by
  have hactive : (!(src == .copper && listBase c n == 0)) = decide (¬(src = .copper ∧ listBase c n = 0)) := by
    rw [decide_not, Bool.decide_and]; rfl
  rw [restartCopper, hactive]

/-- Settles O23: both strobes are the restart of their list. -/
theorem strobesRestartTheCopper : Obligations.StrobesRestartTheCopper := by
  intro src v s
  constructor
  · change Host.Outcome.next { s with cop := restartCopper s.cop .one src } = _
    rw [restartCopper_eq]; rfl
  · change Host.Outcome.next { s with cop := restartCopper s.cop .two src } = _
    rw [restartCopper_eq]; rfl

/-! ### MOVE (R180 to R182) -/

theorem moveTarget_toNat (ra : BitVec 8) : (moveTarget ra).toNat = 2 * ra.toNat := append_zero_toNat ra

theorem moveTarget_eq (ra : BitVec 8) : moveTarget ra = BitVec.ofNat 9 (2 * ra.toNat) := by
  rw [← moveTarget_toNat, BitVec.ofNat_toNat, BitVec.setWidth_eq]

theorem regIndex_moveTarget (ra : BitVec 8) : regIndex (moveTarget ra) = 2 * ra.toNat := by
  rw [regIndex_eq, moveTarget_toNat]
  omega

theorem moveAllowed_iff (s : State) (ra : BitVec 8) :
    moveAllowed s (moveTarget ra) = true ↔
      (if s.cop.cdang then s.cfg.copperMinRegDanger else s.cfg.copperMinRegSafe).toNat ≤ 2 * ra.toNat := by
  rw [moveAllowed, moveTarget_toNat, decide_eq_true_eq]

/-- Settles O21: the allow-list decides between the discard and the register bus, which runs the register's row or
forwards (`regWrite_of_row`, `regWrite_of_no_row`). -/
theorem moveWritesForwardsOrDrops : Obligations.MoveWritesForwardsOrDrops := by
  intro ra dw s threshold
  rw [← moveTarget_eq, ← regIndex_moveTarget ra]
  refine ⟨fun hlow => ?_, fun hhigh => ?_⟩
  · change execMove ra dw s = _
    rw [execMove, if_neg fun hallowed => ?_]
    · rfl
    · have := (moveAllowed_iff s ra).1 hallowed
      rw [regIndex_moveTarget] at hlow
      omega
  · have hbus : exec (.move ra dw) s = regWrite .copper (moveTarget ra) dw s :=
      if_pos ((moveAllowed_iff s ra).2 (regIndex_moveTarget ra ▸ hhigh))
    rw [hbus]
    refine ⟨fun j hj => regWrite_of_row s hj, fun hnone => ?_⟩
    rw [regWrite_of_no_row s hnone, ← ofNat_regIndex, regIndex_moveTarget, ← moveTarget_eq]
    rfl

/-! ### What a register write does to the Copper -/

/-- The Copper after a register write: untouched, or changed by one of its own seven registers. -/
inductive CopperAfterWrite (src : Master) (a : RegAddr) (c : Copper) : Copper → Prop where
  | untouched : CopperAfterWrite src a c c
  | danger (h : regIndex a = 0x02E) (d : Bool) : CopperAfterWrite src a c { c with cdang := d }
  | base1 (b : Long) : CopperAfterWrite src a c { c with list1Base := b }
  | base2 (b : Long) : CopperAfterWrite src a c { c with list2Base := b }
  | strobe (h : regIndex a = 0x088 ∨ regIndex a = 0x08A) (n : ListId) :
      CopperAfterWrite src a c (restartCopper c n src)

section
variable {src : Master} {a : RegAddr} {v : Word} {s t : State} {c d : Copper}

theorem regWrite_cop (h : regWrite src a v s = .next t) : CopperAfterWrite src a s.cop t.cop := by
  unfold regWrite at h
  split at h
  case h_3 hr => cases h; exact .danger hr _
  case h_16 => obtain ⟨-, -, rfl⟩ := execBltsize_next.1 h; exact .untouched
  case h_24 | h_25 => cases h; exact .base1 _
  case h_26 | h_27 => cases h; exact .base2 _
  case h_28 hr => cases h; exact .strobe (.inl hr) .one
  case h_29 hr => cases h; exact .strobe (.inr hr) .two
  case h_1 | h_2 | h_30 | h_31 | h_32 => cases h <;> exact .untouched
  all_goals obtain ⟨-, rfl⟩ := writeBlitter_next.1 h; exact .untouched

/-- The words the Copper holds are in none of its registers. -/
theorem CopperAfterWrite.words (h : CopperAfterWrite src a c d) :
    d.ir1 = c.ir1 ∧ d.lastInstructionWord = c.lastInstructionWord := by
  cases h <;> exact ⟨rfl, rfl⟩

theorem CopperAfterWrite.cdang (h : CopperAfterWrite src a c d) (ha : regIndex a ≠ 0x02E) : d.cdang = c.cdang := by
  cases h with
  | danger hr => exact absurd hr ha
  | untouched | base1 | base2 | strobe => rfl

theorem CopperAfterWrite.active (h : CopperAfterWrite src a c d) (ha : ¬ (regIndex a = 0x088 ∨ regIndex a = 0x08A)) :
    d.active = c.active := by
  cases h with
  | strobe hr => exact absurd hr ha
  | untouched | danger | base1 | base2 => rfl

end

/-! ### What an instruction of the Copper does to it -/

section
variable {i : CycleInputs} {ra : BitVec 8} {dw : Word} {x : BeamTarget} {s t : State}

/-- A MOVE is a register write by the Copper, or a discard. -/
theorem execMove_next (h : execMove ra dw s = .next t) :
    (moveAllowed s (moveTarget ra) = true ∧ regWrite .copper (moveTarget ra) dw s = .next t) ∨ t.cop = s.cop := by
  unfold execMove at h
  split at h
  · exact .inl ⟨‹_›, h⟩
  · cases h; exact .inr rfl

theorem execWait_cop (h : execWait x s = .next t) : t.cop = { s.cop with waiting := t.cop.waiting } := by
  unfold execWait at h; split at h <;> cases h <;> rfl

theorem execSkip_cop (h : execSkip x s = .next t) : t.cop = { s.cop with programCounter := t.cop.programCounter } := by
  unfold execSkip at h; split at h <;> cases h <;> rfl

/-- No instruction changes the words it was decoded from. -/
theorem copperExecute_words (h : copperExecute s = .next t) :
    t.cop.ir1 = s.cop.ir1 ∧ t.cop.lastInstructionWord = s.cop.lastInstructionWord := by
  obtain ⟨ra, dw, -, e⟩ | ⟨x, -, e⟩ | ⟨x, -, e⟩ := copperExecute_cases s <;> rw [e] at h
  · obtain ⟨-, hwrite⟩ | hcop := execMove_next h
    · exact (regWrite_cop hwrite).words
    · rw [hcop]; exact ⟨rfl, rfl⟩
  · rw [execWait_cop h]; exact ⟨rfl, rfl⟩
  · rw [execSkip_cop h]; exact ⟨rfl, rfl⟩

/-- The allow-list keeps the Copper from COPCON while both thresholds are above it (R181). -/
theorem copperExecute_cdang (hsafe : 0x030 ≤ s.cfg.copperMinRegSafe.toNat)
    (hdanger : 0x030 ≤ s.cfg.copperMinRegDanger.toNat) (h : copperExecute s = .next t) : t.cop.cdang = s.cop.cdang := by
  obtain ⟨ra, dw, -, e⟩ | ⟨x, -, e⟩ | ⟨x, -, e⟩ := copperExecute_cases s <;> rw [e] at h
  · obtain ⟨hallowed, hwrite⟩ | hcop := execMove_next h
    · refine (regWrite_cop hwrite).cdang ?_
      rw [moveAllowed_iff] at hallowed
      rw [regIndex_moveTarget]
      split at hallowed <;> omega
    · rw [hcop]
  · rw [execWait_cop h]
  · rw [execSkip_cop h]

/-- What a completed cycle of a granted Copper has run: the words at the program counter, from the state that holds
them. -/
theorem advance_copper_next (hgrant : (reached i s).agnus.busOwner = some .copper)
    (h : exec (.advance i) s = .next t) :
    ∃ u, copperExecute (copperFetch (reached i s)) = .next u ∧ t.cop = u.cop := by
  rw [exec_advance_of_copper hgrant, andThen_next] at h
  obtain ⟨u, hu, ⟨⟩⟩ := h
  exact ⟨u, hu, endCycle_cop i u⟩

end

/-- Settles O17: the held words are the target (100, 50) with full masks and no look at the Blitter, so the claim is the
comparison of `beamReached_fullMask`; a granted Copper holds the words it fetched (`copperExecute_words`). -/
theorem waitForLine100Cycle50 : Obligations.WaitForLine100Cycle50 := by
  intro i s hactive hwait hir1 hir2 hmaster hcopen r hline
  have hclaims : copperClaims r = true ↔ 100 < r.line.toNat ∨ (r.line.toNat = 100 ∧ 50 ≤ r.cycle.toNat) := by
    have hbeam := beamReached_fullMask (x := beamTargetOf 0x6433 0xFFFE) rfl rfl r.line r.cycle
    rw [Nat.mod_eq_of_lt (by omega)] at hbeam
    have henabled : copperEnabled s = true := by rw [copperEnabled, hmaster, hcopen]; rfl
    rw [copperClaims_of_waiting hwait hir1 hir2, henabled, hactive, Bool.true_and, Bool.true_and]
    have hsat : waitSatisfied 0x6433 0xFFFE r = beamReached (beamTargetOf 0x6433 0xFFFE) r.line r.cycle :=
      Bool.and_true _
    rw [hsat]
    exact hbeam
  refine ⟨hclaims, fun hbefore => ?_, fun hgrant t h => ?_⟩
  · exact exec_advance_of_unclaimed (Bool.eq_false_iff.2 fun hc => by have := hclaims.1 hc; omega)
  · obtain ⟨u, hu, hcop⟩ := advance_copper_next hgrant h
    rw [hcop]
    exact copperExecute_words hu

/-- Settles O26: only a granted Copper works on the Copper, and its instruction leaves the danger bit
(`copperExecute_cdang`). -/
theorem copperCannotLiftItsRestriction : Obligations.CopperCannotLiftItsRestriction := by
  intro i s t hsafe hdanger h
  by_cases hgrant : (reached i s).agnus.busOwner = some .copper
  · obtain ⟨u, hu, hcop⟩ := advance_copper_next hgrant h
    rw [hcop]
    exact copperExecute_cdang (s := copperFetch (reached i s)) hsafe hdanger hu
  · obtain ⟨u, hu, hcop, -⟩ := exec_advance_of_not_copper hgrant
    cases hu.symm.trans h
    rw [hcop]

/-! ### What can arm the Copper (R177) -/

section
variable {s t : State}

theorem ciaRead_cop {c : CiaId} {n : Nat} (h : ciaRead c n s = .next t) : t.cop = s.cop := by
  rw [ciaRead_next h, setResult_cop, setCia_cop]

theorem ciaWrite_cop {c : CiaId} {n : Nat} {v : Byte} (h : ciaWrite c n v s = .next t) : t.cop = s.cop := by
  rw [ciaWrite_next h, setCia_cop]

theorem writeUnmappedWindow_cop (s : State) (off : BitVec 16) (v : Byte) :
    (writeUnmappedWindow s off v).cop = s.cop := by
  unfold writeUnmappedWindow; split <;> rfl

theorem autoconfigWrite_cop {off : BitVec 16} {v : Byte} (h : autoconfigWrite off v s = .next t) : t.cop = s.cop := by
  unfold autoconfigWrite at h
  split at h
  · unfold execAutoconfBaseHi at h; split at h <;> cases h; exacts [rfl, writeUnmappedWindow_cop ..]
  · unfold execAutoconfBaseLo at h; split at h <;> cases h; exacts [rfl, writeUnmappedWindow_cop ..]
  · unfold execAutoconfShutup at h; split at h <;> cases h; exacts [rfl, writeUnmappedWindow_cop ..]
  · cases h; rfl

theorem execAutoconfRead_cop {off : BitVec 16} (h : execAutoconfRead off s = .next t) : t.cop = s.cop := by
  unfold execAutoconfRead at h
  split at h
  · cases h; rfl
  · split at h <;> cases h <;> rfl

theorem orUnmapped_cop {o : Out} {a : Nat} (ho : ∀ u, o = .next u → u.cop = s.cop)
    (h : orUnmapped o s a = .next t) : t.cop = s.cop := by
  cases o with
  | next u =>
    unfold orUnmapped at h
    dsimp only at h
    split at h <;> cases h
    · rfl
    · exact ho _ rfl
  | fault r => cases h
  | refused r => cases h

theorem readRegion_cop {r : Region} {a : Nat} (h : readRegion r a s = .next t) : t.cop = s.cop := by
  cases r with
  | cia c n => exact orUnmapped_cop (fun _ => ciaRead_cop) h
  | reg r =>
    unfold readRegion at h
    dsimp only at h
    split at h <;> cases h <;> rfl
  | chip | autoconfig | fastRam | unmapped => cases h; rfl
  | outside => cases h

theorem writeRegion_cop {r : Region} {a : Nat} {v : Byte} (h : writeRegion r a v s = .next t) : t.cop = s.cop := by
  cases r with
  | cia c n => exact ciaWrite_cop h
  | autoconfig off => exact autoconfigWrite_cop h
  | chip | fastRam | unmapped => cases h; rfl
  | reg | outside => cases h

theorem execRegread_cop {a : RegAddr} (h : execRegread a s = .next t) : t.cop = s.cop := by
  unfold execRegread at h
  split at h <;> cases h <;> rfl

theorem execSnapsave_cop {cap : Nat} (h : execSnapsave cap s = .next t) : t.cop = s.cop := by
  unfold execSnapsave at h
  split at h <;> cases h
  rfl

end

/-- The operations that may arm an idle Copper: a host write of a strobe, directly or by REGWRITE, and SNAPLOAD. -/
def ArmsCopper (i : Instr) : Prop :=
  (∃ v, i = .copjmp1 .host v) ∨ (∃ v, i = .copjmp2 .host v)
    ∨ (∃ a v, i = .regwrite a v ∧ (regIndex a = 0x088 ∨ regIndex a = 0x08A)) ∨ ∃ b, i = .snapload b

/-- An instruction whose encoding is a register write is the row of that register (`decodeReadsBackEveryEncoding`). -/
theorem regwRow_of_encode {i : Instr} {a : RegAddr} {src : Master} {v : Word} (hwf : i.wellFormed = true)
    (henc : encode i = regwWords a src v) : regwRow (regIndex a) src v = some i := by
  have hdec := decodeReadsBackEveryEncoding i hwf
  obtain ⟨hi, lo, hbytes, ha⟩ := regAddrBytes_eq a
  rw [henc, regwWords, hbytes] at hdec
  change rowOr (regwRow (regIndex (regAddrOf hi lo)) (masterOfByte (masterByte src)) (wordOf (wordHi v) (wordLo v)))
    = _ at hdec
  rw [ha, masterOfByte_masterByte, wordOf_wordHi_wordLo] at hdec
  cases hrow : regwRow (regIndex a) src v with
  | none => rw [hrow] at hdec; cases hdec
  | some j => rw [hrow] at hdec; cases hdec; rfl

/-- A register row other than the two strobes leaves the Copper's activity. -/
theorem exec_registerRow_active {i : Instr} {a : RegAddr} {src : Master} {v : Word} {s t : State}
    (hwf : i.wellFormed = true) (henc : encode i = regwWords a src v)
    (hstrobe : ¬ (regIndex a = 0x088 ∨ regIndex a = 0x08A)) (h : exec i s = .next t) :
    t.cop.active = s.cop.active :=
  (regWrite_cop ((regWrite_of_row s (regwRow_of_encode hwf henc)).trans h)).active hstrobe

/-- No other operation that the port accepts arms an idle Copper: a cycle leaves it idle (`advanceOneCycle_idle`), RESET
makes it idle, and the rest never write its activity. -/
theorem exec_stays_idle {i : Instr} {s t : State} (h : exec i s = .next t) (hport : i.byCopper = false)
    (harms : ¬ ArmsCopper i) (hidle : s.cop.active = false) : t.cop.active = false := by
  have untouched (hcop : t.cop = s.cop) : t.cop.active = false := by rw [hcop, hidle]
  cases i with
  | move | wait | skip => cases hport
  | reset hard => cases h; rfl
  | advance inputs =>
    obtain ⟨u, hu, hstays⟩ := advanceOneCycle_idle inputs hidle
    cases hu.symm.trans h
    exact hstays
  | peek addr => exact untouched (readRegion_cop h)
  | poke addr v => exact untouched (writeRegion_cop h)
  | snapsave cap => exact untouched (execSnapsave_cop h)
  | snapload buffer => exact absurd (.inr (.inr (.inr ⟨buffer, rfl⟩))) harms
  | regwrite a v =>
    exact ((regWrite_cop h).active fun hstrobe => harms (.inr (.inr (.inl ⟨a, v, rfl, hstrobe⟩)))).trans hidle
  | regread a => exact untouched (execRegread_cop h)
  | copjmp1 src v =>
    cases src with
    | host => exact absurd (.inl ⟨v, rfl⟩) harms
    | copper => cases hport
  | copjmp2 src v =>
    cases src with
    | host => exact absurd (.inr (.inl ⟨v, rfl⟩)) harms
    | copper => cases hport
  | snapsize | dmaconr | vposr | vhposr => cases h; exact hidle
  | vposw | vhposw | copcon | bltcon0 | bltcon1 | bltafwm | bltalwm | bltcpth | bltcptl | bltbpth | bltbptl | bltapth
  | bltaptl | bltdpth | bltdptl | bltsize | bltcmod | bltbmod | bltamod | bltdmod | bltcdat | bltbdat | bltadat
  | cop1lch | cop1lcl | cop2lch | cop2lcl | dmacon | bplcon0 =>
    exact (exec_registerRow_active rfl rfl (by decide) h).trans hidle
  | praR | prbR | ddraR | ddrbR | taloR | tahiR | tbloR | tbhiR | todmidR | regbR | sdrR | craR | crbR =>
    cases h; exact hidle
  | todloR c => exact untouched (ciaRead_cop (n := 0x8) h)
  | todhiR c => exact untouched (ciaRead_cop (n := 0xA) h)
  | icrR c => exact untouched (ciaRead_cop (n := 0xD) h)
  | praW | prbW | ddraW | ddrbW | taloW | tahiW | tbloW | tbhiW | todloW | todmidW | todhiW | imrW =>
    cases h; exact untouched (updateCia_cop ..)
  | regbW c v => exact untouched (ciaWrite_cop (n := 0xB) h)
  | sdrW c v => exact untouched (ciaWrite_cop (n := 0xC) h)
  | craW c v => exact untouched (ciaWrite_cop (n := 0xE) h)
  | crbW c v => exact untouched (ciaWrite_cop (n := 0xF) h)
  | autoconfRead off => exact untouched (execAutoconfRead_cop h)
  | autoconfBaseHi v => exact untouched (autoconfigWrite_cop (off := 0x48) h)
  | autoconfBaseLo v => exact untouched (autoconfigWrite_cop (off := 0x4A) h)
  | autoconfShutup v => exact untouched (autoconfigWrite_cop (off := 0x4C) h)

/-- What the port accepts is a request that decodes to an operation the Copper does not drive. -/
theorem acceptRequest_ok {e : Encoded} {i : Instr} (h : acceptRequest e = .ok i) :
    decode e = .ok i ∧ i.byCopper = false := by
  unfold acceptRequest at h
  split at h
  · cases h
  · rename_i j hdec
    split at h <;> cases h
    exact ⟨hdec, Bool.eq_false_iff.2 ‹_›⟩

/-- A step that completes with a request pending has run the operation that its head decodes to. -/
theorem step_next_of_pending {s t : State} {e : Encoded} {rest : List Encoded} (hreq : s.requests = e :: rest)
    (h : step s = .next t) :
    ∃ i, decode e = .ok i ∧ i.byCopper = false ∧ exec i (enterOperation s) = .next t := by
  unfold step at h
  rw [fetch_cons hreq] at h
  cases hacc : acceptRequest e with
  | error r => rw [hacc] at h; cases h
  | ok i =>
    rw [hacc] at h
    obtain ⟨hdec, hport⟩ := acceptRequest_ok hacc
    exact ⟨i, hdec, hport, h⟩

/-- Settles O25: a step that arms an idle Copper is not the idle step, and the operation it ran is one of those that may
(`exec_stays_idle`). -/
theorem idleCopperIsArmedOnlyByAStrobe : Obligations.IdleCopperIsArmedOnlyByAStrobe := by
  intro s t h hidle harmed
  cases hreq : s.requests with
  | nil =>
    unfold step at h
    rw [fetch_nil hreq] at h
    cases h
    exact absurd harmed (Bool.eq_false_iff.1 hidle)
  | cons e rest =>
    obtain ⟨i, hdec, hport, hexec⟩ := step_next_of_pending hreq h
    refine ⟨e, rest, i, rfl, hdec, ?_⟩
    by_contra harms
    exact Bool.eq_false_iff.1 (exec_stays_idle hexec hport harms hidle) harmed

end Sys2Proof.Machine
end

section
/-! PROOFS. The Blitter's registers and one Blitter word (42_blitter.md): the registers that store a word or half a pointer
(R211 to R229), BLTSIZE (R230, R231), what a word leaves alone and where it goes (R233, R241), and its bits, from the
minterm (R234 to R238) and with fill (R239). -/

namespace Sys2Proof.Machine

/-! ### The registers -/

/-- An operation that is refused only while a blit is in flight (R112) completes with an idle Blitter. -/
theorem next_of_idle {s t : State} {o : Out} (hidle : s.blt.busyFlag = false)
    (ho : o = if s.blt.busyFlag then .refused .blitterRegisterWriteWhileBusy else .next t) : o = .next t := by
  rw [ho, hidle]; rfl

/-- Settles O30: each register is one change of an idle Blitter. -/
theorem blitterWordRegisterWrites : Obligations.BlitterWordRegisterWrites := by
  intro src v s hidle
  have hwrite {o : Out} {t : State} := next_of_idle (o := o) (t := t) hidle
  exact ⟨hwrite rfl, hwrite rfl, hwrite rfl, hwrite rfl, hwrite rfl, hwrite rfl, hwrite rfl, hwrite rfl, hwrite rfl,
    hwrite rfl, hwrite rfl⟩

/-- Settles O31: the half writes as numbers (`setHighHalf_toNat`, `setLowHalf_toNat`), for each of the four pointers. -/
theorem blitterPointerHalfWrites : Obligations.BlitterPointerHalfWrites := by
  intro src v s hidle high low
  have hhigh (p : Long) : high p (setHighHalf p v) := setHighHalf_toNat p v
  have hlow (p : Long) : low p (setLowHalf p v) := setLowHalf_toNat p v
  have hwrite {o : Out} {t : State} := next_of_idle (o := o) (t := t) hidle
  exact ⟨⟨_, hhigh _, hwrite rfl⟩, ⟨_, hlow _, hwrite rfl⟩, ⟨_, hhigh _, hwrite rfl⟩, ⟨_, hlow _, hwrite rfl⟩,
    ⟨_, hhigh _, hwrite rfl⟩, ⟨_, hlow _, hwrite rfl⟩, ⟨_, hhigh _, hwrite rfl⟩, ⟨_, hlow _, hwrite rfl⟩⟩

/-- The height field of BLTSIZE is its upper ten bits. -/
theorem sizeHeight_eq (v : Word) : sizeHeight v = if v.toNat / 64 = 0 then 1024 else v.toNat / 64 := by
  have hfield : (v.extractLsb' 6 10).toNat = v.toNat / 64 := by
    rw [BitVec.extractLsb'_toNat, Nat.shiftRight_eq_div_pow]
    have := v.isLt
    omega
  rw [sizeHeight, hfield]

/-- The width field of BLTSIZE is its lower six bits. -/
theorem sizeWidth_eq (v : Word) : sizeWidth v = if v.toNat % 64 = 0 then 64 else v.toNat % 64 := by
  have hfield : (v.extractLsb' 0 6).toNat = v.toNat % 64 := by
    rw [BitVec.extractLsb'_toNat, Nat.shiftRight_zero]
  rw [sizeWidth, hfield]

theorem execBltsize_refused {src : Master} {v : Word} {s : State} (hidle : s.blt.busyFlag = false)
    (hmode : lineOrDesc s.blt = true) : execBltsize src v s = .refused .blitterModeNotSpecified := by
  simp [execBltsize, hidle, hmode]

/-- Settles O33: an accepted BLTSIZE is `startCounters`, with its two fields as numbers (`sizeHeight_eq`,
`sizeWidth_eq`). -/
theorem bltsizeStartsABlit : Obligations.BltsizeStartsABlit := by
  intro src v s hidle h w
  constructor
  · rintro ⟨hline, hdesc⟩
    have hmode : lineOrDesc s.blt = false := by rw [lineOrDesc, hline, hdesc]; rfl
    refine (execBltsize_next (src := src).2 ⟨hidle, hmode, rfl⟩).trans ?_
    rw [startCounters, sizeHeight_eq, sizeWidth_eq, fillCarryIn]
  · intro hmode
    exact execBltsize_refused (src := src) hidle ((Bool.or_eq_true _ _).mpr hmode)

/-! ### What one word leaves alone (R210, R243) -/

/-- The registers and the size that a blit in flight works with agree. -/
structure Blitter.SameSettings (b c : Blitter) : Prop where
  control0 : b.control0 = c.control0
  control1 : b.control1 = c.control1
  firstMask : b.firstMask = c.firstMask
  lastMask : b.lastMask = c.lastMask
  modA : b.modA = c.modA
  modB : b.modB = c.modB
  modC : b.modC = c.modC
  modD : b.modD = c.modD
  width : b.width = c.width
  height : b.height = c.height

theorem Blitter.SameSettings.trans {b c d : Blitter} (hbc : b.SameSettings c) (hcd : c.SameSettings d) :
    b.SameSettings d :=
  ⟨hbc.control0.trans hcd.control0, hbc.control1.trans hcd.control1, hbc.firstMask.trans hcd.firstMask,
    hbc.lastMask.trans hcd.lastMask, hbc.modA.trans hcd.modA, hbc.modB.trans hcd.modB, hbc.modC.trans hcd.modC,
    hbc.modD.trans hcd.modD, hbc.width.trans hcd.width, hbc.height.trans hcd.height⟩

/-- The counting of a word changes the counters, the flags of R38 and the fill carry alone. -/
theorem stepCounters_eq (b : Blitter) :
    stepCounters b = { b with
      xCounter := (stepCounters b).xCounter, yCounter := (stepCounters b).yCounter
      busyFlag := (stepCounters b).busyFlag, firstWordFlag := (stepCounters b).firstWordFlag
      lastWordFlag := (stepCounters b).lastWordFlag, fillCarry := (stepCounters b).fillCarry } := by
  unfold stepCounters
  split <;> rfl

theorem stepCounters_sameSettings (b : Blitter) : (stepCounters b).SameSettings b := by
  rw [stepCounters_eq]
  exact ⟨rfl, rfl, rfl, rfl, rfl, rfl, rfl, rfl, rfl, rfl⟩

/-! The fields a count leaves alone. -/

@[simp] theorem stepCounters_holdD (b : Blitter) : (stepCounters b).holdD = b.holdD := by rw [stepCounters_eq]
@[simp] theorem stepCounters_zeroFlag (b : Blitter) : (stepCounters b).zeroFlag = b.zeroFlag := by rw [stepCounters_eq]
@[simp] theorem stepCounters_ptrA (b : Blitter) : (stepCounters b).ptrA = b.ptrA := by rw [stepCounters_eq]
@[simp] theorem stepCounters_ptrB (b : Blitter) : (stepCounters b).ptrB = b.ptrB := by rw [stepCounters_eq]
@[simp] theorem stepCounters_ptrC (b : Blitter) : (stepCounters b).ptrC = b.ptrC := by rw [stepCounters_eq]
@[simp] theorem stepCounters_ptrD (b : Blitter) : (stepCounters b).ptrD = b.ptrD := by rw [stepCounters_eq]

/-- The fill carry is reloaded after the last word of a line. -/
theorem stepCounters_fillCarry (b : Blitter) :
    (stepCounters b).fillCarry = if b.xCounter ≤ 1 then fillCarryIn b else b.fillCarry := by
  rw [stepCounters, apply_ite Blitter.fillCarry]
  exact if_congr (by omega) rfl rfl

theorem stepOneWord_sameSettings (s : State) : (stepOneWord s).blt.SameSettings s.blt :=
  (stepCounters_sameSettings _).trans ⟨rfl, rfl, rfl, rfl, rfl, rfl, rfl, rfl, rfl, rfl⟩

/-- The output word stands in `holdD` from the combination on. -/
theorem stepOneWord_holdD (s : State) : (stepOneWord s).blt.holdD = (combineWord (readSources s)).holdD :=
  stepCounters_holdD _

/-- The zero flag looks at the output word (R240), stored or not. -/
theorem stepOneWord_zeroFlag (s : State) :
    (stepOneWord s).blt.zeroFlag = (s.blt.zeroFlag && decide ((stepOneWord s).blt.holdD = 0)) := by
  rw [stepOneWord_holdD]
  exact stepCounters_zeroFlag _

/-! ### Where the word goes (R241) -/

/-- With channel D enabled the output word is stored at the destination pointer as it stood before the word. -/
theorem stepOneWord_of_store {s : State} (h : storeToDest s.blt = true) :
    stepOneWord s = { chipWrite16 s s.blt.ptrD (stepOneWord s).blt.holdD with blt := (stepOneWord s).blt } := by
  have hdest : writeDestination s (combineWord (readSources s))
      = chipWrite16 s s.blt.ptrD (combineWord (readSources s)).holdD := if_pos h
  rw [stepOneWord_holdD, ← hdest]
  rfl

theorem stepOneWord_of_no_store {s : State} (h : storeToDest s.blt = false) :
    stepOneWord s = { s with blt := (stepOneWord s).blt } := by
  have hdest : writeDestination s (combineWord (readSources s)) = s := if_neg (Bool.eq_false_iff.1 h)
  conv_lhs => rw [stepOneWord, hdest]
  rfl

/-- Memory is read without a look at the Blitter. -/
theorem chipByte_withBlitter (s : State) (b : Blitter) (x : Nat) : chipByte { s with blt := b } x = chipByte s x := rfl

theorem chipRead16_withBlitter (s : State) (b : Blitter) (p : Long) :
    chipRead16 { s with blt := b } p = chipRead16 s p := rfl

/-- A stored word reads back. -/
theorem chipRead16_stepOneWord {s : State} (h : storeToDest s.blt = true) :
    chipRead16 (stepOneWord s) s.blt.ptrD = (stepOneWord s).blt.holdD := by
  rw [stepOneWord_of_store h, chipRead16_withBlitter]
  exact chipRead16_chipWrite16_same s _ rfl

/-- Settles O39: the settings stay (`stepOneWord_sameSettings`), and memory is that of the word write, if there is one. -/
theorem blitterWordTouchesOnlyItsDestination : Obligations.BlitterWordTouchesOnlyItsDestination := by
  intro s t a
  have hkeep : t.blt.SameSettings s.blt := stepOneWord_sameSettings s
  refine ⟨stepOneWord_eq s, hkeep.control0, hkeep.control1, hkeep.firstMask, hkeep.lastMask, hkeep.modA, hkeep.modB,
    hkeep.modC, hkeep.modD, hkeep.width, hkeep.height, fun hoff x => ?_, fun hon => ?_⟩
  · exact (congrArg (chipByte · x) (stepOneWord_of_no_store hoff)).trans (chipByte_withBlitter s _ x)
  · have hbyte (x : Nat) : chipByte t x =
        if x = a + 1 then wordLo t.blt.holdD else if x = a then wordHi t.blt.holdD else chipByte s x :=
      (congrArg (chipByte · x) (stepOneWord_of_store hon)).trans (chipByte_chipWrite16 s _ _ x)
    refine ⟨?_, ?_, fun x hx hx' => ?_⟩
    · rw [hbyte, if_neg (by omega), if_pos rfl]
    · rw [hbyte, if_pos rfl]
    · rw [hbyte, if_neg hx', if_neg hx]

/-! ### The minterm of a word (R234 to R238) -/

/-- Bit `k` of the minterm's word is the bit of the minterm byte that the three sources' bits `k` select (R237). -/
theorem getLsbD_mintermWord (lf : Byte) (a b c : Word) {k : Nat} (hk : k < 16) :
    (mintermWord lf a b c).getLsbD k
      = lf.getLsbD (4 * (a.getLsbD k).toNat + 2 * (b.getLsbD k).toNat + (c.getLsbD k).toNat) :=
  getLsbD_wordOfBits _ k hk

/-- A minterm byte that is the truth table of `f` gives the word that is `f` of the sources bit by bit. -/
theorem mintermWord_eq (f : Bool → Bool → Bool → Bool) {lf : Byte} {a b c d : Word}
    (htable : ∀ x y z : Bool, lf.getLsbD (4 * x.toNat + 2 * y.toNat + z.toNat) = f x y z)
    (hbits : ∀ k, k < 16 → d.getLsbD k = f (a.getLsbD k) (b.getLsbD k) (c.getLsbD k)) : mintermWord lf a b c = d :=
  BitVec.eq_of_getLsbD_eq fun k hk => by rw [getLsbD_mintermWord _ _ _ _ hk, htable, hbits k hk]

theorem mintermWord_CA (a b c : Word) : mintermWord 0xCA a b c = (a &&& b) ||| (~~~a &&& c) :=
  mintermWord_eq (fun x y z => (x && y) || (!x && z)) (by decide) fun k hk => by simp [hk]

theorem mintermWord_FF (a b c : Word) : mintermWord 0xFF a b c = 0xFFFF :=
  mintermWord_eq (fun _ _ _ => true) (by decide) (by decide)

/-- The word of the minterm, before fill: sub-steps 2 to 4 on the holding registers. -/
def mintermOutput (b : Blitter) : Word :=
  mintermWord (minterm b) (funnelShift b.aOld (maskedA b) (ash b)) (funnelShift b.bOld b.holdB (bsh b)) b.holdC

/-- The output word is the minterm's, filled if fill is enabled. -/
theorem combineWord_holdD (b : Blitter) :
    (combineWord b).holdD
      = if fillEnable b then fillWord (fillExclusive b) (mintermOutput b) b.fillCarry else mintermOutput b := rfl

theorem combineWord_fillCarry (b : Blitter) :
    (combineWord b).fillCarry = if fillEnable b then fillCarryAt (mintermOutput b) b.fillCarry 16 else b.fillCarry := rfl

/-- The funnel as a division of the 32-bit number the two words make. -/
theorem funnelShift_eq (old cur : Word) (n : Nat) :
    funnelShift old cur n = BitVec.ofNat 16 ((65536 * old.toNat + cur.toNat) / 2 ^ n) := by
  apply BitVec.eq_of_toNat_eq
  rw [funnelShift, BitVec.extractLsb'_toNat, Nat.shiftRight_zero, BitVec.toNat_ushiftRight, longOf_toNat,
    Nat.shiftRight_eq_div_pow, BitVec.toNat_ofNat]

/-- The upper four bits of a control word. -/
theorem upperNibble_toNat (v : Word) : (v.extractLsb' 12 4).toNat = v.toNat / 4096 := by
  rw [BitVec.extractLsb'_toNat, Nat.shiftRight_eq_div_pow]
  have := v.isLt
  omega

theorem minterm_toNat (b : Blitter) : (minterm b).toNat = b.control0.toNat % 256 := by
  rw [minterm, BitVec.extractLsb'_toNat, Nat.shiftRight_zero]

theorem getLsbD_minterm (b : Blitter) {k : Nat} (hk : k < 8) : (minterm b).getLsbD k = b.control0.getLsbD k := by
  simp [minterm, hk]

/-- Settles O34: the word of a step without fill is the minterm's of the shifted sources, and the two minterms of the
document are among the formulas. -/
theorem mintermIdentities : Obligations.MintermIdentities := by
  constructor
  · intro a b c
    refine ⟨mintermWord_CA a b c, mintermWord_FF a b c, ?_, ?_, ?_, ?_, ?_, ?_, ?_, ?_⟩
    · exact mintermWord_eq (fun _ _ _ => false) (by decide) (by decide)
    · exact mintermWord_eq (fun x _ _ => x) (by decide) fun _ _ => rfl
    · exact mintermWord_eq (fun _ y _ => y) (by decide) fun _ _ => rfl
    · exact mintermWord_eq (fun _ _ z => z) (by decide) fun _ _ => rfl
    · exact mintermWord_eq (fun x _ _ => !x) (by decide) fun k hk => by simp [hk]
    · exact mintermWord_eq (fun x y _ => x && y) (by decide) fun _ _ => BitVec.getLsbD_and
    · exact mintermWord_eq (fun x y _ => x || y) (by decide) fun _ _ => BitVec.getLsbD_or
    · exact mintermWord_eq (fun x y _ => x ^^ y) (by decide) fun _ _ => BitVec.getLsbD_xor
  · intro s hincl hexcl shifted aWord bWord aMasked aS bS c t
    have hnofill : fillEnable (readSources s) = false := Bool.or_eq_false_iff.2 ⟨hincl, hexcl⟩
    have haS : funnelShift s.blt.aOld aMasked (ash s.blt) = aS := by
      rw [funnelShift_eq, ash, upperNibble_toNat]
    have hbS : funnelShift s.blt.bOld bWord (bsh s.blt) = bS := by
      rw [funnelShift_eq, bsh, upperNibble_toNat]
    have hword : t.blt.holdD = mintermWord (minterm s.blt) aS bS c := by
      rw [← haS, ← hbS, stepOneWord_holdD, combineWord_holdD, hnofill]; rfl
    have hread (hD : s.blt.control0.getLsbD 8 = true) : chipRead16 t s.blt.ptrD = t.blt.holdD := chipRead16_stepOneWord hD
    refine ⟨fun k hk => ?_, hread, fun hlf hoff hzero => ?_, fun hlf => ?_⟩
    · have ha := Bool.toNat_le (aS.getLsbD k)
      have hb := Bool.toNat_le (bS.getLsbD k)
      have hc := Bool.toNat_le (c.getLsbD k)
      rw [hword, getLsbD_mintermWord _ _ _ _ hk, getLsbD_minterm _ (by omega)]
    · have hmin : minterm s.blt = 0xCA := BitVec.eq_of_toNat_eq ((minterm_toNat _).trans hlf)
      have hc : c = 0 := (if_neg (Bool.eq_false_iff.1 hoff)).trans hzero
      have hand : t.blt.holdD = aS &&& bS := by rw [hword, hmin, mintermWord_CA, hc]; simp
      exact ⟨hand, fun hD => (hread hD).trans hand⟩
    · have hmin : minterm s.blt = 0xFF := BitVec.eq_of_toNat_eq ((minterm_toNat _).trans hlf)
      have hones : t.blt.holdD = 0xFFFF := by rw [hword, hmin, mintermWord_FF]
      exact ⟨hones, fun hD => (hread hD).trans hones⟩

/-! ### Fill (R239) -/

/-- Whether an odd number of the bits below bit `k` is 1. -/
def oddBelow (d : Word) (k : Nat) : Bool := decide ((List.range k).countP (fun j => d.getLsbD j) % 2 = 1)

theorem oddBelow_succ (d : Word) (k : Nat) : oddBelow d (k + 1) = (oddBelow d k ^^ d.getLsbD k) := by
  rw [oddBelow, oddBelow, List.range_succ, List.countP_append, List.countP_singleton]
  cases d.getLsbD k with
  | false => simp
  | true =>
    rw [if_pos rfl, Bool.xor_true, ← decide_not]
    exact decide_eq_decide.2 (by omega)

/-- Every 1 bit below toggles the carry that entered the word. -/
theorem fillCarryAt_eq (d : Word) (carry : Bool) (k : Nat) : fillCarryAt d carry k = (carry ^^ oddBelow d k) := by
  induction k with
  | zero => simp [fillCarryAt, oddBelow]
  | succ k ih => rw [fillCarryAt, ih, oddBelow_succ, Bool.xor_assoc]

theorem getLsbD_fillWord (exclusive : Bool) (d : Word) (carry : Bool) {k : Nat} (hk : k < 16) :
    (fillWord exclusive d carry).getLsbD k
      = if exclusive then (carry ^^ oddBelow d k) ^^ d.getLsbD k else (carry ^^ oddBelow d k) || d.getLsbD k := by
  rw [fillWord, getLsbD_wordOfBits _ k hk, fillCarryAt_eq]

/-- The Blitter with both fill enables clear. -/
def withoutFill (b : Blitter) : Blitter := { b with control1 := b.control1 &&& 0xFFE7 }

theorem fillEnable_withoutFill (b : Blitter) : fillEnable (withoutFill b) = false := by
  simp [fillEnable, withoutFill]

/-- The shift of channel B lies above the fill enables. -/
theorem bsh_withoutFill (b : Blitter) : bsh (withoutFill b) = bsh b := by
  have hkept : ∀ i, i < 4 → (0xFFE7 : Word).getLsbD (12 + i) = true := by decide
  refine congrArg BitVec.toNat (BitVec.eq_of_getLsbD_eq fun i hi => ?_)
  rw [BitVec.getLsbD_extractLsb', BitVec.getLsbD_extractLsb', withoutFill, BitVec.getLsbD_and, hkept i hi, Bool.and_true]

theorem mintermOutput_withoutFill (b : Blitter) : mintermOutput (withoutFill b) = mintermOutput b := by
  rw [mintermOutput, bsh_withoutFill]
  rfl

/-- Without its fill enables a word is that of the minterm. -/
theorem combineWord_withoutFill_holdD (b : Blitter) : (combineWord (withoutFill b)).holdD = mintermOutput b := by
  rw [combineWord_holdD, fillEnable_withoutFill, mintermOutput_withoutFill]
  rfl

theorem combineWord_of_fill {b : Blitter} (h : fillEnable b = true) :
    (combineWord b).holdD = fillWord (fillExclusive b) (mintermOutput b) b.fillCarry
      ∧ (combineWord b).fillCarry = fillCarryAt (mintermOutput b) b.fillCarry 16 := by
  rw [combineWord_holdD, combineWord_fillCarry, h]
  exact ⟨rfl, rfl⟩

/-- The fill carry after a word: the carry out, or the reloaded FCI after the last word of a line (R243). -/
theorem stepOneWord_fillCarry (s : State) :
    (stepOneWord s).blt.fillCarry
      = if s.blt.xCounter ≤ 1 then fillCarryIn s.blt else (combineWord (readSources s)).fillCarry :=
  stepCounters_fillCarry _

/-- Settles O35: the carry by induction on the bits below (`fillCarryAt_eq`); a step with fill fills the word that the
same step combines without it (`combineWord_withoutFill_holdD`). -/
theorem fillCountsTheBitsBelow : Obligations.FillCountsTheBitsBelow := by
  refine ⟨fun d carry k _ => ⟨fillCarryAt_eq d carry k, getLsbD_fillWord true d carry, getLsbD_fillWord false d carry⟩,
    fun b hfill => ?_, ?_⟩
  · obtain ⟨hword, hcarry⟩ := combineWord_of_fill (b := b) ((Bool.or_eq_true _ _).mpr hfill)
    exact ⟨mintermOutput b, hword, hcarry, combineWord_withoutFill_holdD b⟩
  · intro s hfill d carry t
    obtain ⟨hword, hcarry⟩ := combineWord_of_fill (b := readSources s) ((Bool.or_eq_true _ _).mpr hfill)
    have hd : d = mintermOutput (readSources s) :=
      (stepOneWord_holdD _).trans (combineWord_withoutFill_holdD (readSources s))
    rw [← hd] at hword hcarry
    refine ⟨fun k hk => ?_, chipRead16_stepOneWord, stepOneWord_zeroFlag s, ?_⟩
    · rw [stepOneWord_holdD, hword, getLsbD_fillWord _ _ _ hk]; rfl
    · rw [stepOneWord_fillCarry, hcarry, fillCarryAt_eq]; rfl

end Sys2Proof.Machine
end

section
/-! PROOFS. A whole blit (42_blitter.md): after every number of words the counters and flags (R243), the pointers (R242)
and the zero flag (R240), by induction on the words. -/

namespace Sys2Proof.Machine

/-! ### Lines and words -/

section
variable {w n : Nat}

/-- After the last word of a line comes the first of the next. -/
theorem div_mod_of_line_end (hw : 1 ≤ w) (h : n % w = w - 1) : (n + 1) / w = n / w + 1 ∧ (n + 1) % w = 0 := by
  have hn := Nat.div_add_mod n w
  exact (Nat.div_mod_unique hw).2 ⟨by rw [Nat.mul_succ]; omega, hw⟩

theorem div_mod_inside_line (hw : 1 ≤ w) (h : n % w ≠ w - 1) : (n + 1) / w = n / w ∧ (n + 1) % w = n % w + 1 := by
  have hn := Nat.div_add_mod n w
  have hlt := Nat.mod_lt n hw
  exact (Nat.div_mod_unique hw).2 ⟨by omega, by omega⟩

end

/-! ### Counters and flags (R243) -/

/-- The counters and flags of a Blitter `n` words into a blit of `h` lines of `w` words. -/
structure Blitter.AtWord (w h n : Nat) (b : Blitter) : Prop where
  width : b.width = w
  height : b.height = h
  x : b.xCounter = w - n % w
  y : b.yCounter = h - n / w
  first : b.firstWordFlag = decide (n % w = 0)
  last : b.lastWordFlag = decide (n % w = w - 1)
  busy : b.busyFlag = decide (n / w < h)

/-- A word counts one further into the blit; the last of a line ends the line, and the blit if it was the last line. -/
theorem stepCounters_atWord {w h n : Nat} {b : Blitter} (hw : 1 ≤ w) (hmore : n / w < h) (hb : b.AtWord w h n) :
    (stepCounters b).AtWord w h (n + 1) := by
  have hx := hb.x
  have hy := hb.y
  have hlt := Nat.mod_lt n hw
  by_cases hend : n % w = w - 1
  · obtain ⟨hdiv, hmod⟩ := div_mod_of_line_end hw hend
    rw [stepCounters, if_pos (by omega)]
    refine ⟨hb.width, hb.height, ?_, ?_, ?_, ?_, ?_⟩ <;> simp only [hdiv, hmod, hb.width, hb.busy]
    · rfl
    · omega
    · rfl
    · exact decide_eq_decide.2 (by omega)
    · rw [← Bool.decide_and]
      exact decide_eq_decide.2 (by omega)
  · obtain ⟨hdiv, hmod⟩ := div_mod_inside_line hw hend
    rw [stepCounters, if_neg (by omega)]
    refine ⟨hb.width, hb.height, ?_, ?_, ?_, ?_, ?_⟩ <;> simp only [hdiv, hmod]
    · omega
    · exact hb.y
    · rfl
    · exact decide_eq_decide.2 (by omega)
    · exact hb.busy

/-- The sub-steps before the counting leave the counters. -/
theorem stepOneWord_atWord {w h n : Nat} {s : State} (hw : 1 ≤ w) (hmore : n / w < h) (hb : s.blt.AtWord w h n) :
    (stepOneWord s).blt.AtWord w h (n + 1) :=
  stepCounters_atWord hw hmore { hb with }

/-- An accepted BLTSIZE starts the counters and leaves the rest. -/
theorem exec_bltsize_next {src : Master} {v : Word} {s t : State} (h : exec (.bltsize src v) s = .next t) :
    t = { s with blt := startCounters s.blt v } :=
  have ⟨_, _, ht⟩ := (execBltsize_next (src := src)).1 h
  ht

theorem startCounters_atWord (b : Blitter) (v : Word) :
    (startCounters b v).AtWord (sizeWidth v) (sizeHeight v) 0 := by
  have ⟨hw, _⟩ := sizeWidth_mem v
  have ⟨hh, _⟩ := sizeHeight_mem v
  refine ⟨rfl, rfl, ?_, ?_, ?_, ?_, ?_⟩ <;> rw [startCounters] <;> simp only [Nat.zero_mod, Nat.zero_div]
  · rfl
  · rfl
  · rfl
  · exact decide_eq_decide.2 (by omega)
  · exact (decide_eq_true hh).symm

theorem iterate_sameSettings (s : State) (n : Nat) : (stepOneWord^[n] s).blt.SameSettings s.blt := by
  induction n with
  | zero => exact ⟨rfl, rfl, rfl, rfl, rfl, rfl, rfl, rfl, rfl, rfl⟩
  | succ n ih => rw [Function.iterate_succ_apply']; exact (stepOneWord_sameSettings _).trans ih

theorem iterate_atWord {w h : Nat} {s : State} (hw : 1 ≤ w) (hs : s.blt.AtWord w h 0) {n : Nat} (hn : n ≤ w * h) :
    (stepOneWord^[n] s).blt.AtWord w h n := by
  induction n with
  | zero => exact hs
  | succ n ih =>
    rw [Function.iterate_succ_apply']
    exact stepOneWord_atWord hw (Nat.div_lt_of_lt_mul hn) (ih (by omega))

/-- The fill carry is FCI whenever a line begins. -/
theorem iterate_fillCarry {w h : Nat} {s : State} (hw : 1 ≤ w) (hs : s.blt.AtWord w h 0)
    (hcarry : s.blt.fillCarry = fillCarryIn s.blt) {n : Nat} (hn : n ≤ w * h) (hline : n % w = 0) :
    (stepOneWord^[n] s).blt.fillCarry = fillCarryIn s.blt := by
  cases n with
  | zero => exact hcarry
  | succ n =>
    have hat : (stepOneWord^[n] s).blt.AtWord w h n := iterate_atWord hw hs (by omega)
    have hend : n % w = w - 1 := by
      by_contra hinside
      obtain ⟨-, hmod⟩ := div_mod_inside_line hw hinside
      omega
    have hx := hat.x
    rw [Function.iterate_succ_apply', stepOneWord_fillCarry, if_pos (by omega), fillCarryIn,
      (iterate_sameSettings s n).control1, fillCarryIn]

/-- Settles O36: the counters of every word (`iterate_atWord`), from those BLTSIZE sets. -/
theorem blitTakesWidthTimesHeightWords : Obligations.BlitTakesWidthTimesHeightWords := by
  intro src v s t hstart
  rw [← sizeHeight_eq, ← sizeWidth_eq, exec_bltsize_next hstart]
  intro h w n hn b
  have hw : 1 ≤ w := (sizeWidth_mem v).1
  have hstarted : (startCounters s.blt v).AtWord w h 0 := startCounters_atWord s.blt v
  have hat : b.AtWord w h n := iterate_atWord hw hstarted hn
  have hbusy : n / w < h ↔ n < w * h := by rw [Nat.div_lt_iff_lt_mul hw, Nat.mul_comm]
  exact ⟨hat.busy.trans (decide_eq_decide.2 hbusy), hat.width, hat.height, hat.y, hat.x, hat.first, hat.last,
    iterate_fillCarry hw hstarted rfl hn⟩

/-! ### Pointers (R242) -/

/-- How far `n` words in lines of `w` words move the pointer of an enabled channel with modulo `m`. -/
def pointerOffset (w : Nat) (m : Word) (n : Nat) : Int :=
  ((n / w : Nat) : Int) * (2 * ((w : Int) - 1) + m.toInt) + 2 * ((n % w : Nat) : Int)

theorem pointerOffset_zero (w : Nat) (m : Word) : pointerOffset w m 0 = 0 := by simp [pointerOffset]

/-- The last word of a line moves the pointer by the modulo, every other word by 2. -/
theorem pointerOffset_succ {w : Nat} (hw : 1 ≤ w) (m : Word) (n : Nat) :
    pointerOffset w m (n + 1) = pointerOffset w m n + if n % w = w - 1 then m.toInt else 2 := by
  unfold pointerOffset
  split
  · rename_i hend
    obtain ⟨hdiv, hmod⟩ := div_mod_of_line_end hw hend
    rw [hdiv, hmod, hend]
    push_cast [hw]
    ring
  · rename_i hinside
    obtain ⟨hdiv, hmod⟩ := div_mod_inside_line hw hinside
    rw [hdiv, hmod]
    push_cast
    ring

/-- The pointer of a channel after `n` words in lines of `w` words. -/
def pointerAfter (enabled : Bool) (w : Nat) (p : Long) (m : Word) (n : Nat) : Long :=
  if enabled then p + BitVec.ofInt 32 (pointerOffset w m n) else p

theorem pointerAfter_zero (enabled : Bool) (w : Nat) (p : Long) (m : Word) : pointerAfter enabled w p m 0 = p := by
  simp [pointerAfter, pointerOffset_zero]

/-- The model's step of a pointer takes it from one word of a blit to the next. -/
theorem stepPointer_pointerAfter {w : Nat} (hw : 1 ≤ w) (enabled : Bool) (p : Long) (m : Word) (n : Nat) :
    stepPointer enabled (decide (n % w = w - 1)) (pointerAfter enabled w p m n) m = pointerAfter enabled w p m (n + 1) := by
  cases enabled with
  | false => rfl
  | true =>
    simp only [stepPointer, pointerAfter, if_true, pointerOffset_succ hw, BitVec.ofInt_add, ← BitVec.add_assoc,
      decide_eq_true_eq]
    split <;> rfl

/-- The four pointers of `b` are those of `start` after `n` words in lines of `w` words. -/
structure Blitter.PointersAt (b : Blitter) (w : Nat) (start : Blitter) (n : Nat) : Prop where
  ptrA : b.ptrA = pointerAfter (useA start) w start.ptrA start.modA n
  ptrB : b.ptrB = pointerAfter (useB start) w start.ptrB start.modB n
  ptrC : b.ptrC = pointerAfter (useC start) w start.ptrC start.modC n
  ptrD : b.ptrD = pointerAfter (storeToDest start) w start.ptrD start.modD n

theorem stepOneWord_pointersAt {w n : Nat} {start : Blitter} {s : State} (hw : 1 ≤ w)
    (hkeep : s.blt.SameSettings start) (hlast : s.blt.lastWordFlag = decide (n % w = w - 1))
    (hs : s.blt.PointersAt w start n) : (stepOneWord s).blt.PointersAt w start (n + 1) := by
  have hstep (enabled : Bool) (p : Long) (m : Word) :=
    hlast ▸ stepPointer_pointerAfter hw enabled p m n
  refine ⟨?_, ?_, ?_, ?_⟩
  · rw [← hstep, ← hs.ptrA, ← hkeep.modA, useA, ← hkeep.control0]
    exact stepCounters_ptrA _
  · rw [← hstep, ← hs.ptrB, ← hkeep.modB, useB, ← hkeep.control0]
    exact stepCounters_ptrB _
  · rw [← hstep, ← hs.ptrC, ← hkeep.modC, useC, ← hkeep.control0]
    exact stepCounters_ptrC _
  · rw [← hstep, ← hs.ptrD, ← hkeep.modD, storeToDest, ← hkeep.control0]
    exact stepCounters_ptrD _

theorem iterate_pointersAt {w h : Nat} {s : State} (hw : 1 ≤ w) (hs : s.blt.AtWord w h 0) {n : Nat} (hn : n ≤ w * h) :
    (stepOneWord^[n] s).blt.PointersAt w s.blt n := by
  induction n with
  | zero => constructor <;> rw [pointerAfter_zero] <;> rfl
  | succ n ih =>
    rw [Function.iterate_succ_apply']
    exact stepOneWord_pointersAt hw (iterate_sameSettings s n) (iterate_atWord hw hs (by omega)).last (ih (by omega))

/-- Settles O37: the pointers of every word (`iterate_pointersAt`), from the registers BLTSIZE starts with. -/
theorem pointersAfterABlit : Obligations.PointersAfterABlit := by
  intro src v s t hstart
  rw [← sizeHeight_eq, ← sizeWidth_eq, exec_bltsize_next hstart]
  intro h w n hn lines words moved b
  have hstarted : (startCounters s.blt v).AtWord w h 0 := startCounters_atWord s.blt v
  obtain ⟨hA, hB, hC, hD⟩ := iterate_pointersAt (s := { s with blt := startCounters s.blt v }) (sizeWidth_mem v).1
    hstarted hn
  exact ⟨hA, hB, hC, hD⟩

/-! ### The zero flag (R240) -/

/-- The zero flag stands as long as every output word was 0. -/
theorem iterate_zeroFlag (s : State) (n : Nat) :
    (stepOneWord^[n] s).blt.zeroFlag = true
      ↔ s.blt.zeroFlag = true ∧ ∀ k, k < n → (stepOneWord^[k + 1] s).blt.holdD = 0 := by
  induction n with
  | zero => simp
  | succ n ih =>
    rw [Nat.forall_lt_succ_right, ← and_assoc, ← ih, Function.iterate_succ_apply', stepOneWord_zeroFlag,
      Bool.and_eq_true, decide_eq_true_eq]

/-- Settles O38: BLTSIZE sets the zero flag (R230), and `iterate_zeroFlag` follows it. -/
theorem zeroFlagTellsAllWordsWereZero : Obligations.ZeroFlagTellsAllWordsWereZero := by
  intro src v s t hstart n
  rw [exec_bltsize_next hstart, iterate_zeroFlag]
  exact and_iff_right rfl

end Sys2Proof.Machine
end

section
/-! PROOFS. What clocks a CIA (43_cia.md R261 to R269): the interrupt sources an event raises, a timer over any number of
ticks (R261 to R264), both timers of a ticked CIA with their sources (R262, R265), and the TOD over any number of pulses
(R269). -/

namespace Sys2Proof.Machine

/-! ### Raising a source (R266) -/

/-- The bit of ICR and IMR that belongs to a source (30_encoding.md R120). -/
def IcrSource.bit : IcrSource → Nat
  | .timerA => 0
  | .timerB => 1
  | .alarm => 2

theorem IcrSource.mask_eq_twoPow (b : IcrSource) : b.mask = BitVec.twoPow 8 b.bit := by cases b <;> rfl

theorem and_mask_ne_zero (m : Byte) (b : IcrSource) : (m &&& b.mask != 0) = m.getLsbD b.bit := by
  rw [b.mask_eq_twoPow, BitVec.and_twoPow]
  cases m.getLsbD b.bit
  · rfl
  · cases b <;> rfl

/-- Raising a source on a condition, as one change of the pending bits and the line. -/
theorem setIcr_if (c : Bool) (x : Cia) (b : IcrSource) :
    (if c then setIcr x b else x)
      = { x with icr := x.icr ||| gated c b.mask, irq := x.irq || (c && x.imr.getLsbD b.bit) } := by
  cases c with
  | false => simp [gated]
  | true => rw [if_pos rfl, setIcr, and_mask_ne_zero, gated, if_pos rfl, Bool.true_and]

theorem gated_or {w : Nat} (a b : Bool) (v : BitVec w) : gated (a || b) v = gated a v ||| gated b v := by
  cases a <;> cases b <;> simp [gated]

/-! ### One tick of a timer, case by case (R261 to R264) -/

section
variable {t : Timer}

theorem tickTimer_of_stopped (h : t.running = false) : tickTimer t = { t with pulseOutput := false } := by
  simp [tickTimer, h]

theorem tickTimer_of_pos (h : t.running = true) (hc : t.count ≠ 0) :
    tickTimer t = { t with count := t.count - 1, pulseOutput := false } := by
  rw [tickTimer, if_pos h, if_neg hc]

theorem tickTimer_of_zero (h : t.running = true) (hc : t.count = 0) :
    tickTimer t = { underflowTimer t with pulseOutput := true } := by
  rw [tickTimer, if_pos h, if_pos hc]

theorem underflowTimer_of_oneShot (h : t.oneShotMode = true) :
    underflowTimer t = { t with cr := t.cr &&& 0xFE, toggleOutput := !t.toggleOutput } := if_pos h

theorem underflowTimer_of_continuous (h : t.oneShotMode = false) :
    underflowTimer t = { t with count := t.latch, toggleOutput := !t.toggleOutput } :=
  if_neg (Bool.eq_false_iff.1 h)

/-! ### A timer over many ticks -/

theorem iterate_tickTimer_of_stopped (h : t.running = false) (n : Nat) :
    tickTimer^[n] t = { t with pulseOutput := t.pulseOutput && decide (n = 0) } := by
  induction n with
  | zero => simp
  | succ n ih =>
    rw [Function.iterate_succ_apply', ih, tickTimer_of_stopped]
    · simp
    · exact h

/-- A running timer counts down to 0, one a tick. -/
theorem iterate_tickTimer_countdown (h : t.running = true) {n : Nat} (hn : n ≤ t.count.toNat) :
    tickTimer^[n] t
      = { t with count := t.count - BitVec.ofNat 16 n, pulseOutput := t.pulseOutput && decide (n = 0) } := by
  induction n with
  | zero => simp
  | succ n ih =>
    have hpos : t.count - BitVec.ofNat 16 n ≠ 0 := by bv_omega
    rw [Function.iterate_succ_apply', ih (by omega), tickTimer_of_pos _ hpos]
    · simp [BitVec.sub_sub, BitVec.ofNat_add]
    · exact h

/-- In either mode the tick that finds the count at 0 is the underflow. -/
theorem iterate_tickTimer_underflow (h : t.running = true) :
    tickTimer^[t.count.toNat + 1] t = { underflowTimer { t with count := 0 } with pulseOutput := true } := by
  have hzero : t.count - BitVec.ofNat 16 t.count.toNat = 0 := by simp
  rw [Function.iterate_succ_apply', iterate_tickTimer_countdown h le_rfl, hzero, tickTimer_of_zero _ rfl]
  · unfold underflowTimer Timer.oneShotMode
    split <;> rfl
  · exact h

theorem running_of_start_cleared : ({ t with cr := t.cr &&& 0xFE } : Timer).running = false := by
  simp [Timer.running]

/-- A one-shot timer underflows once and then stands stopped at 0 (R263). -/
theorem iterate_tickTimer_oneShot (h : t.running = true) (hmode : t.oneShotMode = true) (m : Nat) :
    tickTimer^[t.count.toNat + 1 + m] t
      = { t with
          count := 0, cr := t.cr &&& 0xFE, toggleOutput := !t.toggleOutput, pulseOutput := decide (m = 0) } := by
  rw [Nat.add_comm, Function.iterate_add_apply, iterate_tickTimer_underflow h, underflowTimer_of_oneShot,
    iterate_tickTimer_of_stopped]
  · simp
  · exact running_of_start_cleared
  · exact hmode

/-- A continuous timer reloads its latch at the underflow and runs on (R263). -/
theorem iterate_tickTimer_continuous {c : Nat} (h : t.running = true) (hmode : t.oneShotMode = false)
    (hc : t.count.toNat = c) :
    tickTimer^[c + 1] t = { t with count := t.latch, toggleOutput := !t.toggleOutput, pulseOutput := true } := by
  rw [← hc, iterate_tickTimer_underflow h, underflowTimer_of_continuous]
  exact hmode

theorem decide_succ_odd (k : Nat) : decide ((k + 1) % 2 = 1) = !decide (k % 2 = 1) := by
  rw [← decide_not]
  exact decide_eq_decide.2 (by omega)

/-- `k` whole periods of a continuous timer that holds its latch. -/
theorem iterate_tickTimer_periods (h : t.running = true) (hmode : t.oneShotMode = false) (hload : t.count = t.latch)
    (k : Nat) :
    tickTimer^[k * (t.latch.toNat + 1)] t
      = { t with
          toggleOutput := t.toggleOutput ^^ decide (k % 2 = 1), pulseOutput := t.pulseOutput || decide (k ≠ 0) } := by
  induction k with
  | zero => simp
  | succ k ih =>
    rw [Nat.succ_mul, Nat.add_comm, Function.iterate_add_apply, ih, iterate_tickTimer_continuous]
    · simp [hload, decide_succ_odd]
    · exact h
    · exact hmode
    · rw [hload]

/-- `k` periods and `n` ticks more (R279). -/
theorem iterate_tickTimer_period (h : t.running = true) (hmode : t.oneShotMode = false) (hload : t.count = t.latch)
    (k : Nat) {n : Nat} (hn : n ≤ t.latch.toNat) :
    tickTimer^[k * (t.latch.toNat + 1) + n] t
      = { t with
          count := t.latch - BitVec.ofNat 16 n
          toggleOutput := t.toggleOutput ^^ decide (k % 2 = 1)
          pulseOutput := (t.pulseOutput || decide (k ≠ 0)) && decide (n = 0) } := by
  rw [Nat.add_comm, Function.iterate_add_apply, iterate_tickTimer_periods h hmode hload, iterate_tickTimer_countdown]
  · simp only [hload]
  · exact h
  · rwa [hload]

end

/-! ### When a timer underflows -/

/-- A timer underflows within `n` ticks exactly if it runs and its count is below `n`, in either mode
(`iterate_tickCia`). -/
def underflowsWithin (t : Timer) (n : Nat) : Bool := t.running && decide (t.count.toNat < n)

theorem underflowsWithin_of_stopped {t : Timer} (h : t.running = false) (n : Nat) : underflowsWithin t n = false := by
  simp [underflowsWithin, h]

theorem underflowsWithin_of_running {t : Timer} (h : t.running = true) (n : Nat) :
    underflowsWithin t n = decide (t.count.toNat < n) := by
  simp [underflowsWithin, h]

theorem underflowsWithin_zero (t : Timer) : underflowsWithin t 0 = false := by simp [underflowsWithin]

/-- The first of `n + 1` ticks underflows, or one of the other `n` does. -/
theorem underflowsWithin_succ (t : Timer) (n : Nat) :
    underflowsWithin t (n + 1) = (underflows t || underflowsWithin (tickTimer t) n) := by
  cases hrun : t.running with
  | false =>
    have hafter : (tickTimer t).running = false := by rw [tickTimer_of_stopped hrun]; exact hrun
    rw [underflowsWithin_of_stopped hrun, underflowsWithin_of_stopped hafter, underflows, hrun]
    rfl
  | true =>
    rw [underflowsWithin_of_running hrun]
    by_cases hc : t.count = 0
    · simp [underflows, hrun, hc]
    · have hafter : (tickTimer t).running = true := by rw [tickTimer_of_pos hrun hc]; exact hrun
      have hcount : (tickTimer t).count.toNat < n ↔ t.count.toNat < n + 1 := by
        rw [tickTimer_of_pos hrun hc]
        dsimp only
        bv_omega
      have hnot : underflows t = false := by simpa [underflows] using fun _ => hc
      rw [hnot, Bool.false_or, underflowsWithin_of_running hafter, decide_eq_decide.2 hcount]

/-! ### A CIA over many ticks (R261, R262, R265) -/

theorem tickTimerA_eq (x : Cia) :
    tickTimerA x = { x with
      timerA := tickTimer x.timerA
      icr := x.icr ||| gated (underflows x.timerA) 0x01
      irq := x.irq || (underflows x.timerA && x.imr.getLsbD 0) } :=
  setIcr_if (underflows x.timerA) { x with timerA := tickTimer x.timerA } .timerA

theorem tickTimerB_eq (x : Cia) :
    tickTimerB x = { x with
      timerB := tickTimer x.timerB
      icr := x.icr ||| gated (underflows x.timerB) 0x02
      irq := x.irq || (underflows x.timerB && x.imr.getLsbD 1) } :=
  setIcr_if (underflows x.timerB) { x with timerB := tickTimer x.timerB } .timerB

theorem tickCia_eq (x : Cia) :
    tickCia x = { x with
      timerA := tickTimer x.timerA
      timerB := tickTimer x.timerB
      icr := x.icr ||| gated (underflows x.timerA) 0x01 ||| gated (underflows x.timerB) 0x02
      irq := x.irq || (underflows x.timerA && x.imr.getLsbD 0) || (underflows x.timerB && x.imr.getLsbD 1) } := by
  rw [tickCia, tickTimerB_eq, tickTimerA_eq]

/-- The timers take their own steps; a source is pending, and the line up if the mask lets it, once its timer has
underflowed. -/
theorem iterate_tickCia (x : Cia) (n : Nat) :
    tickCia^[n] x = { x with
      timerA := tickTimer^[n] x.timerA
      timerB := tickTimer^[n] x.timerB
      icr := x.icr ||| gated (underflowsWithin x.timerA n) 0x01 ||| gated (underflowsWithin x.timerB n) 0x02
      irq := x.irq || (underflowsWithin x.timerA n && x.imr.getLsbD 0)
        || (underflowsWithin x.timerB n && x.imr.getLsbD 1) } := by
  induction n generalizing x with
  | zero => simp [underflowsWithin_zero, gated]
  | succ n ih =>
    rw [Function.iterate_succ_apply, ih, tickCia_eq]
    simp only [Function.iterate_succ_apply, underflowsWithin_succ, gated_or, Bool.and_or_distrib_right, Cia.mk.injEq,
      true_and, and_true]
    constructor <;> ac_rfl

/-- A timer that holds its latch has underflowed after `k` periods and `n` ticks exactly if `k` is not 0. -/
theorem underflowsWithin_period {t : Timer} (h : t.running = true) (hload : t.count = t.latch) (k : Nat) {n : Nat}
    (hn : n ≤ t.latch.toNat) : underflowsWithin t (k * (t.latch.toNat + 1) + n) = decide (k ≠ 0) := by
  rw [underflowsWithin_of_running h, hload]
  cases k with
  | zero => simpa using hn
  | succ k => simp only [Nat.succ_mul]; simp; omega

/-- The count of a timer `n` ticks below its latch, as a number. -/
theorem toNat_sub_ofNat {l : Word} {n : Nat} (hn : n ≤ l.toNat) : (l - BitVec.ofNat 16 n).toNat = l.toNat - n := by
  bv_omega

/-- Settles O40: the counting timer by its periods (`iterate_tickTimer_period`), its source and the line by
`iterate_tickCia`, to which the stopped timer adds nothing. -/
theorem continuousTimerPeriod : Obligations.ContinuousTimerPeriod := by
  intro x k n
  refine ⟨fun h hmode hload hother hn => ?_, fun h hmode hload hother hn => ?_⟩ <;>
  · simp only [iterate_tickCia, underflowsWithin_period h hload k hn, underflowsWithin_of_stopped hother,
      iterate_tickTimer_period h hmode hload k hn, toNat_sub_ofNat hn]
    refine ⟨True.intro, ?_, ?_, True.intro, ?_⟩
    · cases k <;> simp [gated]
    · simp
    · intro hkn
      cases n with
      | zero =>
        have hk : k ≠ 0 := by simpa using hkn
        simp [hk]
      | succ n => simp

/-! ### Both timers at once -/

/-- The bits of a timer source. -/
theorem getLsbD_icr_timers (icr : Byte) (a b : Bool) :
    (icr ||| gated a 0x01 ||| gated b 0x02).getLsbD 0 = (icr.getLsbD 0 || a)
      ∧ (icr ||| gated a 0x01 ||| gated b 0x02).getLsbD 1 = (icr.getLsbD 1 || b) := by
  cases a <;> cases b <;> simp [gated]

/-- Settles O41: one tick is `tickCia_eq` and many are `iterate_tickCia`; a timer's own ticks are its countdown, its
underflow, and the stop or the reload. -/
theorem underflowStopsOrReloadsTheTimer : Obligations.UnderflowStopsOrReloadsTheTimer := by
  refine ⟨fun t h => tickTimer_of_stopped h, tickCia_eq, fun x n => ?_, fun t h =>
    ⟨fun n hn => ?_, fun hmode m => ?_, fun hmode => ?_⟩⟩
  · obtain ⟨hA, hB⟩ :=
      getLsbD_icr_timers x.icr (underflowsWithin x.timerA n) (underflowsWithin x.timerB n)
    rw [iterate_tickCia]
    refine ⟨rfl, rfl, fun hrun _ => ?_, fun hrun _ => ?_⟩
    · rw [← underflowsWithin_of_running hrun]; exact hA
    · rw [← underflowsWithin_of_running hrun]; exact hB
  · rw [iterate_tickTimer_countdown h hn]
    exact ⟨toNat_sub_ofNat hn, h⟩
  · exact iterate_tickTimer_oneShot h hmode m
  · exact iterate_tickTimer_continuous h hmode rfl

/-! ### The TOD over many pulses (R269) -/

/-- Some of the next `n` pulses brings the counter to the alarm. -/
def alarmReached (bits : Nat) (t : Tod) (n : Nat) : Bool :=
  decide (∃ k, k < n ∧ (t.value + (k + 1)) % 2 ^ bits = t.alarm)

theorem alarmReached_succ (bits : Nat) (t : Tod) (n : Nat) :
    alarmReached bits t (n + 1) = (alarmReached bits t n || decide ((t.value + (n + 1)) % 2 ^ bits = t.alarm)) := by
  rw [alarmReached, alarmReached, ← Bool.decide_or]
  exact decide_eq_decide.2 Nat.exists_lt_succ_right

theorem pulseTod_of_stopped (bits : Nat) {x : Cia} (h : x.todStopped = true) : pulseTod bits x = x := if_pos h

theorem pulseTod_of_running (bits : Nat) {x : Cia} (h : x.todStopped = false) :
    pulseTod bits x = { x with
      tod := { x.tod with value := (x.tod.value + 1) % 2 ^ bits }
      icr := x.icr ||| gated (decide ((x.tod.value + 1) % 2 ^ bits = x.tod.alarm)) 0x04
      irq := x.irq || (decide ((x.tod.value + 1) % 2 ^ bits = x.tod.alarm) && x.imr.getLsbD 2) } := by
  have hraise := setIcr_if (decide ((x.tod.value + 1) % 2 ^ bits = x.tod.alarm))
    { x with tod := { x.tod with value := (x.tod.value + 1) % 2 ^ bits } } .alarm
  rw [pulseTod, if_neg (Bool.eq_false_iff.1 h)]
  simp only [decide_eq_true_eq] at hraise
  exact hraise

theorem iterate_pulseTod_of_running {bits : Nat} {x : Cia} (h : x.todStopped = false) (hlt : x.tod.value < 2 ^ bits)
    (n : Nat) :
    (pulseTod bits)^[n] x = { x with
      tod := { x.tod with value := (x.tod.value + n) % 2 ^ bits }
      icr := x.icr ||| gated (alarmReached bits x.tod n) 0x04
      irq := x.irq || (alarmReached bits x.tod n && x.imr.getLsbD 2) } := by
  induction n with
  | zero => simp [alarmReached, gated, Nat.mod_eq_of_lt hlt]
  | succ n ih =>
    rw [Function.iterate_succ_apply', ih, pulseTod_of_running]
    · simp [alarmReached_succ, gated_or, Bool.and_or_distrib_right, BitVec.or_assoc, Bool.or_assoc, Nat.add_assoc]
    · exact h

/-- Settles O42: a stopped TOD stays, and `iterate_pulseTod_of_running` is the two cases of `alarmReached`. -/
theorem todCountsAndRaisesItsAlarm : Obligations.TodCountsAndRaisesItsAlarm := by
  intro bits x n hlt
  refine ⟨fun h => Function.iterate_fixed (pulseTod_of_stopped bits h) n, fun h => ⟨fun hhit => ?_, fun hhit => ?_⟩⟩
  · have hreached : alarmReached bits x.tod n = false := decide_eq_false hhit
    rw [iterate_pulseTod_of_running h hlt, hreached]
    simp [gated]
  · have hreached : alarmReached bits x.tod n = true := decide_eq_true hhit
    rw [iterate_pulseTod_of_running h hlt, hreached]
    simp [gated]

end Sys2Proof.Machine
end

section
/-! PROOFS. The registers of a CIA (43_cia.md R280 to R311): ports and their pins, timer latches and control registers, the
TOD's bytes and its latch, the interrupt registers. -/

namespace Sys2Proof.Machine

/-! ### Port pins (R273, R280, R281) -/

theorem getLsbD_portRead (p : Port) {k : Nat} (hk : k < 8) :
    (portRead p).getLsbD k = if p.direction.getLsbD k then p.register.getLsbD k else p.port.getLsbD k := by
  simp only [portRead, BitVec.getLsbD_or, BitVec.getLsbD_and, BitVec.getLsbD_not, hk, decide_true, Bool.true_and]
  cases p.direction.getLsbD k <;> simp

/-- `override` replaces the bit of its mask while it is on. -/
theorem getLsbD_override (v : Byte) {i : Nat} (hi : i < 8) (on x : Bool) (k : Nat) :
    (override v (BitVec.twoPow 8 i) on x).getLsbD k = if on = true ∧ k = i then x else v.getLsbD k := by
  cases on with
  | false => simp [override]
  | true =>
    by_cases hk : k = i
    · subst hk
      cases x <;> simp [override, gated, hi]
    · by_cases hk8 : k < 8
      · cases x <;> simp [override, gated, hk, hk8]
      · simp [BitVec.getLsbD_of_ge _ k (Nat.le_of_not_lt hk8), hk]

/-- A byte of port B with the timers' pins put in: bits 5 to 0 stay, bit 6 is timer A's pin and bit 7 timer B's. -/
theorem getLsbD_overridePins (v : Byte) (onA a onB b : Bool) :
    (∀ k, k < 6 → (override (override v 0x40 onA a) 0x80 onB b).getLsbD k = v.getLsbD k)
      ∧ (override (override v 0x40 onA a) 0x80 onB b).getLsbD 6 = (if onA then a else v.getLsbD 6)
      ∧ (override (override v 0x40 onA a) 0x80 onB b).getLsbD 7 = (if onB then b else v.getLsbD 7) := by
  have hbit (k : Nat) : (override (override v 0x40 onA a) 0x80 onB b).getLsbD k
      = if onB = true ∧ k = 7 then b else if onA = true ∧ k = 6 then a else v.getLsbD k := by
    rw [← getLsbD_override v (i := 6) (by decide), ← getLsbD_override _ (i := 7) (by decide)]
    rfl
  refine ⟨fun k hk => ?_, ?_, ?_⟩
  · rw [hbit, if_neg (by omega), if_neg (by omega)]
  · rw [hbit, if_neg (by omega)]
    simp only [and_true]
  · rw [hbit]
    simp

/-! ### Bytes of numbers -/

theorem wordLo_eq (v : Word) : wordLo v = BitVec.ofNat 8 v.toNat :=
  BitVec.eq_of_toNat_eq (by rw [wordLo_toNat, BitVec.toNat_ofNat])

theorem wordHi_eq (v : Word) : wordHi v = BitVec.ofNat 8 (v.toNat / 256) :=
  BitVec.eq_of_toNat_eq (by rw [wordHi_toNat, BitVec.toNat_ofNat]; have := v.isLt; omega)

/-- Settles O43: each read puts its byte in the result; the bits of the ports are `getLsbD_portRead` and
`getLsbD_overridePins`. -/
theorem ciaReadsWithoutSideEffects : Obligations.CiaReadsWithoutSideEffects := by
  intro c s x pin gives
  have hpin (k : Nat) (hk : k < 8) : (portRead x.portB).getLsbD k = pin x.portB k := getLsbD_portRead _ hk
  obtain ⟨hlow, h6, h7⟩ := getLsbD_overridePins (portRead x.portB) x.timerA.pbOutputEnabled x.timerA.out
    x.timerB.pbOutputEnabled x.timerB.out
  refine ⟨⟨_, rfl, fun k hk => getLsbD_portRead _ hk⟩, ⟨portBRead x, rfl, fun k hk => ?_, ?_, ?_⟩, rfl, rfl, ?_, ?_, ?_,
    ?_, rfl, rfl, rfl, rfl⟩
  · exact (hlow k hk).trans (hpin k (by omega))
  · rw [← hpin 6 (by decide)]; exact h6
  · rw [← hpin 7 (by decide)]; exact h7
  · rw [← wordLo_eq]; rfl
  · rw [← wordHi_eq]; rfl
  · rw [← wordLo_eq]; rfl
  · rw [← wordHi_eq]; rfl

/-! ### Ports and timer latches (R296 to R303) -/

theorem setWordLo_toNat (v : Word) (b : Byte) : (setWordLo v b).toNat = 256 * (v.toNat / 256) + b.toNat := by
  rw [setWordLo, toNat_wordOf, wordHi_toNat]

theorem setWordHi_toNat (v : Word) (b : Byte) : (setWordHi v b).toNat = 256 * b.toNat + v.toNat % 256 := by
  rw [setWordHi, toNat_wordOf, wordLo_toNat]

/-- Settles O46: each write is one change of its CIA, with the latch bytes as numbers; the pins are
`getLsbD_overridePins` of the levels and of the directions. -/
theorem ciaPortAndLatchWrites : Obligations.CiaPortAndLatchWrites := by
  intro c v s x leaves
  obtain ⟨hlevel, hlevel6, hlevel7⟩ := getLsbD_overridePins x.portB.register x.timerA.pbOutputEnabled x.timerA.out
    x.timerB.pbOutputEnabled x.timerB.out
  obtain ⟨hdir, hdir6, hdir7⟩ := getLsbD_overridePins x.portB.direction x.timerA.pbOutputEnabled true
    x.timerB.pbOutputEnabled true
  refine ⟨rfl, rfl, rfl, rfl, ⟨_, setWordLo_toNat _ v, rfl⟩, ⟨_, setWordHi_toNat _ v, rfl⟩,
    ⟨_, setWordLo_toNat _ v, rfl⟩, ⟨_, setWordHi_toNat _ v, rfl⟩,
    ⟨rfl, fun k hk => ⟨hlevel k hk, hdir k hk⟩, fun k t hpin => ?_⟩, rfl, rfl⟩
  obtain ⟨rfl, rfl⟩ | ⟨rfl, rfl⟩ := hpin
  · rw [Bool.if_true_left, Bool.decide_eq_true] at hdir6
    exact ⟨hlevel6, hdir6⟩
  · rw [Bool.if_true_left, Bool.decide_eq_true] at hdir7
    exact ⟨hlevel7, hdir7⟩

/-! ### Control registers (R310, R311) -/

/-- Settles O49: the control byte's refusal bits decide (R274); what is stored is `writeControl`. -/
theorem controlRegisterWrites : Obligations.ControlRegisterWrites := by
  intro c v s x written
  have hwritten (t : Timer) : writeControl t v = written t := by
    rw [writeControl, Bool.or_comm]; rfl
  refine ⟨fun h5 => ?_, fun h5 => ?_, fun h5 h6 => ?_, fun h => ?_⟩
  · rw [← hwritten]; exact if_neg (Bool.eq_false_iff.1 h5)
  · exact if_pos h5
  · rw [← hwritten]; exact if_neg (by rw [h5, h6]; decide)
  · exact if_pos (by simpa using h)

/-! ### The TOD's bytes (R304 to R306) -/

theorem setTodByte_low (bits t : Nat) (v : Byte) :
    setTodByte bits 0 t v = (256 * (t / 256) + v.toNat) % 2 ^ bits := by
  simp [setTodByte, Nat.mul_comm, Nat.mod_one]

theorem setTodByte_middle (bits t : Nat) (v : Byte) :
    setTodByte bits 1 t v = (65536 * (t / 65536) + 256 * v.toNat + t % 256) % 2 ^ bits := by
  simp [setTodByte, Nat.mul_comm]

theorem setTodByte_high (bits t : Nat) (v : Byte) :
    setTodByte bits 2 t v = (16777216 * (t / 16777216) + 65536 * v.toNat + t % 65536) % 2 ^ bits := by
  simp [setTodByte, Nat.mul_comm]

/-- Settles O47: `setTodByte` of byte 0, 1 or 2; CRB bit 7 decides between the alarm and the counter. -/
theorem todWrites : Obligations.TodWrites := by
  intro c v s x leaves size low mid high
  have stored {i : Instr} {y z : Cia} (hexec : exec i s = .next (setCia s c y)) (hyz : y = z) : leaves i z :=
    hyz ▸ hexec
  refine ⟨fun old hbits hold => ?_, fun halarm => ?_, fun hcounter => ?_⟩
  · have hsize : size = 16777216 * 2 ^ (s.cfg.todBits - 24) := by
      rw [show (16777216 : Nat) = 2 ^ 24 from rfl, ← Nat.pow_add, Nat.add_sub_cancel' hbits]
    have hv := v.isLt
    rw [hsize] at hold ⊢
    omega
  · exact ⟨⟨_, setTodByte_low _ _ v, stored rfl (if_pos halarm)⟩,
      ⟨_, setTodByte_middle _ _ v, stored rfl (if_pos halarm)⟩, _, setTodByte_high _ _ v, stored rfl (if_pos halarm)⟩
  · have hcounter := Bool.eq_false_iff.1 hcounter
    exact ⟨⟨_, setTodByte_low _ _ v, stored rfl (if_neg hcounter)⟩,
      ⟨_, setTodByte_middle _ _ v, stored rfl (if_neg hcounter)⟩, _, setTodByte_high _ _ v,
      stored rfl (if_neg hcounter)⟩

/-! ### The TOD's latch (R288 to R290, R270) -/

theorem latchTod_eq (x : Cia) :
    latchTod x = { x with tod := { x.tod with latch := todShown x }, todLatched := true } := by
  unfold latchTod todShown
  split
  · rename_i h; rw [← h]
  · rfl

theorem todShown_latchTod (x : Cia) : todShown (latchTod x) = todShown x := by
  rw [latchTod_eq]
  exact if_pos rfl

theorem exec_todhiR (c : CiaId) (s : State) :
    exec (.todhiR c) s = .next (setResult (setCia s c (latchTod (getCia s c)))
      (.byte (BitVec.ofNat 8 (todShown (getCia s c) / 65536)))) := by
  have hlatch : (latchTod (getCia s c)).tod.latch = todShown (getCia s c) := by rw [latchTod_eq]
  rw [← hlatch]; rfl

theorem exec_todmidR (c : CiaId) (s : State) :
    exec (.todmidR c) s = .next (setResult s (.byte (BitVec.ofNat 8 (todShown (getCia s c) / 256)))) := rfl

theorem exec_todloR (c : CiaId) (s : State) :
    exec (.todloR c) s = .next (setResult (setCia s c { getCia s c with todLatched := false })
      (.byte (BitVec.ofNat 8 (todShown (getCia s c))))) := by
  have hbyte (n : Nat) : todByte 0 n = BitVec.ofNat 8 n := by rw [todByte, Nat.pow_zero, Nat.div_one]
  rw [← hbyte]; rfl

/-- A pulse leaves what a latched TOD shows. -/
theorem pulseTod_of_latched (bits : Nat) {x : Cia} (h : x.todLatched = true) :
    (pulseTod bits x).todLatched = true ∧ todShown (pulseTod bits x) = todShown x := by
  unfold todShown pulseTod setIcr
  split
  · exact ⟨h, rfl⟩
  · dsimp only
    split <;> simp [h]

theorem iterate_pulseTod_of_latched (bits : Nat) {x : Cia} (h : x.todLatched = true) (n : Nat) :
    ((pulseTod bits)^[n] x).todLatched = true ∧ todShown ((pulseTod bits)^[n] x) = todShown x := by
  induction n with
  | zero => exact ⟨h, rfl⟩
  | succ n ih =>
    obtain ⟨hlatched, hshown⟩ := ih
    rw [Function.iterate_succ_apply']
    obtain ⟨hlatched', hshown'⟩ := pulseTod_of_latched bits hlatched
    exact ⟨hlatched', hshown'.trans hshown⟩

theorem getCia_setResult (s : State) (r : Result) (c : CiaId) : getCia (setResult s r) c = getCia s c := by
  cases c <;> rfl

/-- Settles O44: the three reads as equations; the latch that the first takes is what the other two show, whatever
pulses come (`iterate_pulseTod_of_latched`). -/
theorem todReadsDoNotTear : Obligations.TodReadsDoNotTear := by
  intro c s x shown
  refine ⟨?_, exec_todloR c s, fun hfree n m => ?_⟩
  · rw [exec_todhiR, latchTod_eq]; rfl
  · have hlatched : (latchTod x).todLatched = true := by rw [latchTod_eq]
    have hfirst : todShown x = x.tod.value := if_neg (Bool.eq_false_iff.1 hfree)
    obtain ⟨hlatched1, hshown1⟩ := iterate_pulseTod_of_latched s.cfg.todBits hlatched n
    obtain ⟨-, hshown2⟩ := iterate_pulseTod_of_latched s.cfg.todBits hlatched1 m
    refine ⟨_, _, _, _, _, _, exec_todhiR c s, rfl, exec_todmidR c _, rfl, exec_todloR c _, rfl, ?_, ?_⟩
    · simp only [getCia_updateCia, getCia_setResult, getCia_setCia]
      rw [hshown2, hshown1, todShown_latchTod, hfirst]
      simp only [BitVec.toNat_ofNat]
      omega
    · rw [getCia_setResult, getCia_setCia]

/-! ### Interrupt and serial registers (R293, R308, R309) -/

/-- 0x1F masks the five source bits. -/
theorem getLsbD_sourceMask (k : Nat) : (0x1F : Byte).getLsbD k = decide (k < 5) := by
  have hbits : (31 : Nat).testBit k = decide (k < 5) := Nat.testBit_two_pow_sub_one 5 k
  rw [show (0x1F : Byte) = BitVec.ofNat 8 31 from rfl, BitVec.getLsbD_ofNat, hbits, ← Bool.decide_and]
  exact decide_eq_decide.2 (by omega)

theorem getLsbD_icrReadByte (x : Cia) (k : Nat) :
    (icrReadByte x).getLsbD k = ((x.irq && decide (k = 7)) || (x.icr.getLsbD k && decide (k < 5))) := by
  have hline : (gated x.irq (0x80 : Byte)).getLsbD k = (x.irq && decide (k = 7)) := by
    rw [show (0x80 : Byte) = BitVec.twoPow 8 7 from rfl, gated]
    cases x.irq <;> simp [BitVec.getLsbD_twoPow, eq_comm]
  rw [icrReadByte, BitVec.getLsbD_or, BitVec.getLsbD_and, getLsbD_sourceMask, hline]

theorem icrReadByte_acknowledgeIcr (x : Cia) : icrReadByte (acknowledgeIcr x) = 0 := by
  simp [icrReadByte, acknowledgeIcr, gated]

theorem exec_icrR (c : CiaId) (s : State) :
    exec (.icrR c) s
      = .next (setResult (setCia s c (acknowledgeIcr (getCia s c))) (.byte (icrReadByte (getCia s c)))) := rfl

/-- Settles O45: the read is `acknowledgeIcr`, and an acknowledged CIA reads 0. -/
theorem icrReadAcknowledges : Obligations.IcrReadAcknowledges := by
  intro c s
  have hbit := getLsbD_icrReadByte (getCia s c)
  refine ⟨_, icrReadByte (getCia s c), exec_icrR c s, rfl, fun k hk => ?_, ?_, ?_, ?_, ?_⟩
  · rw [hbit]; simp [hk, show k ≠ 7 by omega]
  · rw [hbit]; simp
  · rw [hbit]; simp
  · rw [hbit]; simp
  · rw [exec_icrR, getCia_setResult, getCia_setCia, icrReadByte_acknowledgeIcr]
    cases c <;> rfl

/-- A write of IMR gives each source bit the value names the value's bit 7, and leaves bits 7 to 5. -/
theorem getLsbD_imrAfter (imr v : Byte) (k : Nat) :
    (imrAfter imr v).getLsbD k = if k < 5 ∧ v.getLsbD k = true then v.getLsbD 7 else imr.getLsbD k := by
  have hnamed : (v &&& 0x1F).getLsbD k = decide (k < 5 ∧ v.getLsbD k = true) := by
    rw [BitVec.getLsbD_and, getLsbD_sourceMask, Bool.and_comm, Bool.decide_and, Bool.decide_eq_true]
  cases hset : v.getLsbD 7 with
  | false =>
    rw [imrAfter, if_neg (Bool.eq_false_iff.1 hset), BitVec.getLsbD_and, BitVec.getLsbD_not, hnamed]
    split
    · simp [*]
    · simpa [*] using fun hbit => BitVec.lt_of_getLsbD hbit
  | true =>
    rw [imrAfter, if_pos hset, BitVec.getLsbD_or, hnamed]
    split <;> simp [*]

theorem decide_ne_zero (v : Byte) : decide (v ≠ 0) = (v != 0) := by rw [decide_not]; rfl

/-- Settles O48: the mask bit by bit (`getLsbD_imrAfter`); bit 6 of CRA decides whether SDR is stored. -/
theorem maskAndSerialWrites : Obligations.MaskAndSerialWrites := by
  intro c v s x
  refine ⟨⟨imrAfter x.imr v, fun k hk => ?_, fun k hk => ?_, ?_⟩, fun h => if_neg (Bool.eq_false_iff.1 h),
    fun h => if_pos h⟩
  · rw [getLsbD_imrAfter]
    simp only [hk, true_and]
  · rw [getLsbD_imrAfter, if_neg (by omega)]
  · rw [decide_ne_zero]; rfl

end Sys2Proof.Machine
end

section
/-! PROOFS. The interrupt line of a CIA (43_cia.md R267): one rule for each way the state is changed without lowering it, one
lemma for each shared operation, and the case split over the instructions. -/

namespace Sys2Proof.Machine

/-! ### The line stays up -/

/-- If the line of a CIA is up, it is still up. -/
def LineStays (c : CiaId) (s t : State) : Prop := (getCia s c).irq = true → (getCia t c).irq = true

section
variable {c d : CiaId} {s t u : State}

theorem LineStays.trans (h : LineStays c s t) (h' : LineStays c t u) : LineStays c s u := fun hup => h' (h hup)

/-- A change elsewhere leaves the line. -/
theorem LineStays.of_sameCias (hA : t.ciaA = s.ciaA) (hB : t.ciaB = s.ciaB) : LineStays c s t := by
  have hsame : getCia t c = getCia s c := by
    cases c
    · exact hA
    · exact hB
  intro hup
  rwa [hsame]

theorem updateCia_lineStays {f : Cia → Cia} (hf : ∀ x, x.irq = true → (f x).irq = true) :
    LineStays c s (updateCia s d f) := by
  intro hup
  by_cases hcd : c = d
  · subst hcd
    rw [getCia_updateCia]
    exact hf _ hup
  · rwa [getCia_updateCia_ne s f hcd]

/-- A change of one CIA leaves the line of the other. -/
theorem updateCia_lineStays_other {f : Cia → Cia} (hcd : c ≠ d) : LineStays c s (updateCia s d f) := by
  intro hup
  rwa [getCia_updateCia_ne s f hcd]

theorem setResult_lineStays (r : Result) : LineStays c s (setResult s r) := .of_sameCias rfl rfl

/-! ### CIA accesses -/

theorem latchTod_irq (x : Cia) : (latchTod x).irq = x.irq := by rw [latchTod_eq]

/-- Of the reads only that of ICR lowers a line, and only its own (R293). -/
theorem ciaRead_lineStays {n : Nat} (h : ciaRead d n s = .next t) (hicr : ¬ (d = c ∧ n = 13)) : LineStays c s t :=
  match n, h with
  | 8, h => by
    cases h
    exact (updateCia_lineStays (f := fun x => { x with todLatched := false }) fun _ => id).trans (setResult_lineStays _)
  | 10, h => by
    cases h
    exact (updateCia_lineStays fun x hx => (latchTod_irq x).trans hx).trans (setResult_lineStays _)
  | 13, h => by
    cases h
    exact (updateCia_lineStays_other fun hcd => hicr ⟨hcd.symm, rfl⟩).trans (setResult_lineStays _)
  | 0, h | 1, h | 2, h | 3, h | 4, h | 5, h | 6, h | 7, h | 9, h | 11, h | 12, h | 14, h | 15, h | _ + 16, h => by
    cases h; exact setResult_lineStays _

theorem writeTodLo_irq (bits : Nat) (x : Cia) (v : Byte) : (writeTodLo bits x v).irq = x.irq := by
  unfold writeTodLo; split <;> rfl

theorem writeTodMid_irq (bits : Nat) (x : Cia) (v : Byte) : (writeTodMid bits x v).irq = x.irq := by
  unfold writeTodMid; split <;> rfl

theorem writeTodHi_irq (bits : Nat) (x : Cia) (v : Byte) : (writeTodHi bits x v).irq = x.irq := by
  unfold writeTodHi; split <;> rfl

theorem writeImr_irq {x : Cia} (v : Byte) (h : x.irq = true) : (writeImr x v).irq = true := by
  rw [writeImr, h, Bool.true_or]

/-- No write lowers a line: IMR's can only raise it (R309), the others leave it. -/
theorem ciaWrite_lineStays {n : Nat} {v : Byte} (h : ciaWrite d n v s = .next t) : LineStays c s t :=
  match n, h with
  | 0, h | 1, h | 2, h | 3, h | 4, h | 5, h | 6, h | 7, h => by cases h; exact updateCia_lineStays fun _ => id
  | 8, h => by cases h; exact updateCia_lineStays fun x hx => (writeTodLo_irq _ x v).trans hx
  | 9, h => by cases h; exact updateCia_lineStays fun x hx => (writeTodMid_irq _ x v).trans hx
  | 10, h => by cases h; exact updateCia_lineStays fun x hx => (writeTodHi_irq _ x v).trans hx
  | 13, h => by cases h; exact updateCia_lineStays fun _ => writeImr_irq v
  | 12, h => by
    simp only [ciaWrite, execSdrW] at h
    split at h <;> cases h
    exact updateCia_lineStays fun _ => id
  | 14, h => by
    simp only [ciaWrite, execCraW] at h
    split at h <;> cases h
    exact updateCia_lineStays fun _ => id
  | 15, h => by
    simp only [ciaWrite, execCrbW] at h
    split at h <;> cases h
    exact updateCia_lineStays fun _ => id
  | 11, h | _ + 16, h => by cases h; exact fun hup => hup

/-! ### The cycle -/

theorem tickCia_irq {x : Cia} (h : x.irq = true) : (tickCia x).irq = true := by
  rw [tickCia_eq, h, Bool.true_or, Bool.true_or]

theorem pulseTod_irq (bits : Nat) {x : Cia} (h : x.irq = true) : (pulseTod bits x).irq = true := by
  cases hstop : x.todStopped with
  | true => rwa [pulseTod_of_stopped bits hstop]
  | false => rw [pulseTod_of_running bits hstop, h, Bool.true_or]

theorem beginCycle_lineStays (i : CycleInputs) : LineStays c s (beginCycle i s) := by cases c <;> exact id

theorem divideCia_lineStays : LineStays c s (divideCia s) := by
  unfold divideCia
  split
  · cases c <;> exact tickCia_irq
  · exact .of_sameCias rfl rfl

theorem deliverTod_lineStays (i : CycleInputs) : LineStays c s (deliverTod i s) := by
  intro hup
  cases c <;> rw [deliverTod, getCia] <;> dsimp only <;> split
  · exact pulseTod_irq _ hup
  · exact hup
  · exact pulseTod_irq _ hup
  · exact hup

theorem ownerCallback_lineStays (h : ownerCallback s = .next t) : LineStays c s t := by
  rw [ownerCallback_eq h]
  exact .of_sameCias rfl rfl

theorem advanceOneCycle_lineStays {i : CycleInputs} (h : advanceOneCycle i s = .next t) : LineStays c s t := by
  obtain ⟨u, hu, rfl⟩ := advanceOneCycle_next.1 h
  have hgrant : LineStays c (beginCycle i s) (arbitrate i (beginCycle i s)) := .of_sameCias rfl rfl
  exact ((beginCycle_lineStays i).trans hgrant).trans <|
    (ownerCallback_lineStays hu).trans (divideCia_lineStays.trans (deliverTod_lineStays i))

/-! ### The other operations -/

theorem regWrite_lineStays {src : Master} {a : RegAddr} {v : Word} (h : regWrite src a v s = .next t) :
    LineStays c s t := by
  rw [regWrite_next h]
  exact .of_sameCias rfl rfl

theorem execMove_lineStays {ra : BitVec 8} {dw : Word} (h : execMove ra dw s = .next t) : LineStays c s t := by
  unfold execMove at h
  split at h
  · exact regWrite_lineStays h
  · cases h; exact .of_sameCias rfl rfl

theorem execWait_lineStays {x : BeamTarget} (h : execWait x s = .next t) : LineStays c s t := by
  unfold execWait at h
  split at h <;> cases h <;> exact .of_sameCias rfl rfl

theorem execSkip_lineStays {x : BeamTarget} (h : execSkip x s = .next t) : LineStays c s t := by
  unfold execSkip at h
  split at h <;> cases h <;> exact .of_sameCias rfl rfl

theorem execRegread_lineStays {a : RegAddr} (h : execRegread a s = .next t) : LineStays c s t := by
  unfold execRegread at h
  split at h <;> cases h <;> exact .of_sameCias rfl rfl

theorem execSnapsave_lineStays {cap : Nat} (h : execSnapsave cap s = .next t) : LineStays c s t := by
  unfold execSnapsave at h
  split at h <;> cases h
  exact .of_sameCias rfl rfl

theorem writeUnmappedWindow_lineStays (off : BitVec 16) (v : Byte) : LineStays c s (writeUnmappedWindow s off v) := by
  unfold writeUnmappedWindow
  split <;> exact .of_sameCias rfl rfl

theorem autoconfigWrite_lineStays {off : BitVec 16} {v : Byte} (h : autoconfigWrite off v s = .next t) :
    LineStays c s t := by
  have unmapped {w : BitVec 16} : LineStays c s (writeUnmappedWindow s w v) := writeUnmappedWindow_lineStays w v
  unfold autoconfigWrite at h
  split at h
  · unfold execAutoconfBaseHi at h; split at h <;> cases h; exacts [.of_sameCias rfl rfl, unmapped]
  · unfold execAutoconfBaseLo at h; split at h <;> cases h; exacts [.of_sameCias rfl rfl, unmapped]
  · unfold execAutoconfShutup at h; split at h <;> cases h; exacts [.of_sameCias rfl rfl, unmapped]
  · cases h; exact .of_sameCias rfl rfl

theorem execAutoconfRead_lineStays {off : BitVec 16} (h : execAutoconfRead off s = .next t) : LineStays c s t := by
  unfold execAutoconfRead at h
  split at h
  · cases h; exact .of_sameCias rfl rfl
  · split at h <;> cases h <;> exact .of_sameCias rfl rfl

theorem orUnmapped_lineStays {o : Out} {a : Nat} (ho : ∀ u, o = .next u → LineStays c s u)
    (h : orUnmapped o s a = .next t) : LineStays c s t := by
  cases o with
  | next u =>
    unfold orUnmapped at h
    dsimp only at h
    split at h <;> cases h
    · exact .of_sameCias rfl rfl
    · exact ho _ rfl
  | fault r => cases h
  | refused r => cases h

/-- A PEEK lowers a line only where it selects that CIA's ICR. -/
theorem readRegion_lineStays {r : Region} {a : Nat} (h : readRegion r a s = .next t) (hicr : r ≠ .cia c 13) :
    LineStays c s t := by
  cases r with
  | cia d n =>
    exact orUnmapped_lineStays (fun _ hread => ciaRead_lineStays hread fun ⟨hd, hn⟩ => hicr (by rw [hd, hn])) h
  | reg r =>
    unfold readRegion at h
    dsimp only at h
    split at h <;> cases h <;> exact .of_sameCias rfl rfl
  | chip | autoconfig | fastRam | unmapped => cases h; exact .of_sameCias rfl rfl
  | outside => cases h

theorem writeRegion_lineStays {r : Region} {a : Nat} {v : Byte} (h : writeRegion r a v s = .next t) :
    LineStays c s t := by
  cases r with
  | cia d n => exact ciaWrite_lineStays h
  | autoconfig off => exact autoconfigWrite_lineStays h
  | chip | fastRam | unmapped => cases h; exact .of_sameCias rfl rfl
  | reg | outside => cases h

end

/-! ### Every instruction -/

/-- The operations that may lower the line of CIA `c`: the read of its ICR, directly or by PEEK, a reset and a snapshot
load. -/
def LowersLine (i : Instr) (c : CiaId) (s : State) : Prop :=
  i = .icrR c ∨ (∃ addr, i = .peek addr ∧ regionOf s (cpuAddr addr) = .cia c 13)
    ∨ (∃ hard, i = .reset hard) ∨ ∃ b, i = .snapload b

theorem exec_lineStays {i : Instr} {c : CiaId} {s t : State} (h : exec i s = .next t) (hlowers : ¬ LowersLine i c s) :
    LineStays c s t := by
  cases i with
  | move ra dw => exact execMove_lineStays h
  | wait x => exact execWait_lineStays h
  | skip x => exact execSkip_lineStays h
  | reset hard => exact absurd (.inr (.inr (.inl ⟨hard, rfl⟩))) hlowers
  | advance inputs => exact advanceOneCycle_lineStays h
  | peek addr => exact readRegion_lineStays h fun hicr => hlowers (.inr (.inl ⟨addr, rfl, hicr⟩))
  | poke addr v => exact writeRegion_lineStays h
  | snapsave cap => exact execSnapsave_lineStays h
  | snapload buffer => exact absurd (.inr (.inr (.inr ⟨buffer, rfl⟩))) hlowers
  | regwrite a v => exact regWrite_lineStays (src := .host) h
  | regread a => exact execRegread_lineStays h
  | snapsize | dmaconr | vposr | vhposr => cases h; exact .of_sameCias rfl rfl
  | vposw | vhposw | copcon | bltcon0 | bltcon1 | bltafwm | bltalwm | bltcpth | bltcptl | bltbpth | bltbptl | bltapth
  | bltaptl | bltdpth | bltdptl | bltsize | bltcmod | bltbmod | bltamod | bltdmod | bltcdat | bltbdat | bltadat
  | cop1lch | cop1lcl | cop2lch | cop2lcl | copjmp1 | copjmp2 | dmacon | bplcon0 =>
    exact regWrite_lineStays ((regWrite_of_row s (regwRow_of_encode rfl rfl)).trans h)
  | praR | prbR | ddraR | ddrbR | taloR | tahiR | tbloR | tbhiR | todmidR | regbR | sdrR | craR | crbR =>
    cases h; exact .of_sameCias rfl rfl
  | todloR d => exact ciaRead_lineStays (n := 0x8) h fun ⟨_, hn⟩ => absurd hn (by decide)
  | todhiR d => exact ciaRead_lineStays (n := 0xA) h fun ⟨_, hn⟩ => absurd hn (by decide)
  | icrR d => exact ciaRead_lineStays (n := 0xD) h fun ⟨hd, _⟩ => hlowers (.inl (by rw [hd]))
  | praW d v => exact ciaWrite_lineStays (n := 0x0) h
  | prbW d v => exact ciaWrite_lineStays (n := 0x1) h
  | ddraW d v => exact ciaWrite_lineStays (n := 0x2) h
  | ddrbW d v => exact ciaWrite_lineStays (n := 0x3) h
  | taloW d v => exact ciaWrite_lineStays (n := 0x4) h
  | tahiW d v => exact ciaWrite_lineStays (n := 0x5) h
  | tbloW d v => exact ciaWrite_lineStays (n := 0x6) h
  | tbhiW d v => exact ciaWrite_lineStays (n := 0x7) h
  | todloW d v => exact ciaWrite_lineStays (n := 0x8) h
  | todmidW d v => exact ciaWrite_lineStays (n := 0x9) h
  | todhiW d v => exact ciaWrite_lineStays (n := 0xA) h
  | regbW d v => exact ciaWrite_lineStays (n := 0xB) h
  | sdrW d v => exact ciaWrite_lineStays (n := 0xC) h
  | imrW d v => exact ciaWrite_lineStays (n := 0xD) h
  | craW d v => exact ciaWrite_lineStays (n := 0xE) h
  | crbW d v => exact ciaWrite_lineStays (n := 0xF) h
  | autoconfRead off => exact execAutoconfRead_lineStays h
  | autoconfBaseHi v => exact autoconfigWrite_lineStays (off := 0x48) h
  | autoconfBaseLo v => exact autoconfigWrite_lineStays (off := 0x4A) h
  | autoconfShutup v => exact autoconfigWrite_lineStays (off := 0x4C) h

/-- Settles O50: every other operation keeps a line that is up (`exec_lineStays`). -/
theorem lineFallsOnlyByItsAcknowledge : Obligations.LineFallsOnlyByItsAcknowledge := by
  intro i c s t h hup hdown
  by_contra hlowers
  exact Bool.eq_false_iff.1 hdown (exec_lineStays h hlowers hup)

end Sys2Proof.Machine
end

section
/-! PROOFS. What a cycle leaves alone outside the chipset (44_zorro.md R321): the registers of a CIA that neither its pins
nor its clocks write (40_agnus.md R149 to R151), and the events of a cycle (R147, 60_exceptions.md R371). -/

namespace Sys2Proof.Machine

/-! ### The registers of a CIA that only software writes -/

/-- A CIA with everything cleared that its pins, the ticks or the TOD pulses write. -/
def Cia.software (x : Cia) : Cia :=
  { x with
    portA := { x.portA with port := 0 }
    portB := { x.portB with port := 0 }
    timerA := { Timer.reset with latch := x.timerA.latch }
    timerB := { Timer.reset with latch := x.timerB.latch }
    icr := 0
    irq := false
    tod := { x.tod with value := 0 } }

theorem software_samplePins (x : Cia) (p : CiaPins) : (samplePins x p).software = x.software := rfl

theorem tickTimer_latch (t : Timer) : (tickTimer t).latch = t.latch := by
  unfold tickTimer
  split
  · split
    · unfold underflowTimer; split <;> rfl
    · rfl
  · rfl

theorem software_tickCia (x : Cia) : (tickCia x).software = x.software := by
  simp only [tickCia_eq, Cia.software, tickTimer_latch]

theorem software_pulseTod (bits : Nat) (x : Cia) : (pulseTod bits x).software = x.software := by
  cases hstop : x.todStopped with
  | true => rw [pulseTod_of_stopped bits hstop]
  | false => rw [pulseTod_of_running bits hstop]; rfl

/-- What one CIA receives in a cycle: its pins, then a tick if the divider expires, then its TOD pulse if one comes. -/
theorem software_of_clocked {x y : Cia} {p : CiaPins} {tick : Prop} [Decidable tick] {pulse : Bool} {bits : Nat}
    (h : y = if pulse then pulseTod bits (if tick then tickCia (samplePins x p) else samplePins x p)
      else if tick then tickCia (samplePins x p) else samplePins x p) :
    y.software = x.software := by
  rw [h]
  split <;> split <;> simp only [software_pulseTod, software_tickCia, software_samplePins]

theorem advance_software {i : CycleInputs} {s t : State} (h : exec (.advance i) s = .next t) (c : CiaId) :
    (getCia t c).software = (getCia s c).software := by
  obtain ⟨-, hA, hB⟩ := advanceClocksTheCias i s t h
  cases c with
  | a => exact software_of_clocked hA
  | b => exact software_of_clocked hB

/-! ### The events of a cycle -/

/-- A register write of the bus emits nothing, or the write it forwards (30_encoding.md R111). -/
theorem regWrite_events {src : Master} {a : RegAddr} {v : Word} {s t : State} (h : regWrite src a v s = .next t) :
    t.events = s.events ∨ ∃ b w, t.events = s.events ++ [.regWriteOut src b w] := by
  unfold regWrite at h
  split at h
  case h_16 => obtain ⟨-, -, rfl⟩ := execBltsize_next.1 h; exact .inl rfl
  case h_31 | h_32 => cases h; exact .inr ⟨_, _, rfl⟩
  case h_1 | h_2 | h_3 | h_24 | h_25 | h_26 | h_27 | h_28 | h_29 | h_30 => cases h <;> exact .inl rfl
  all_goals obtain ⟨-, rfl⟩ := writeBlitter_next.1 h; exact .inl rfl

/-- At most one event, which the Copper drives: a forwarded write, or a MOVE its allow-list discards (41_copper.md
R182). -/
def CopperEvents (s t : State) : Prop :=
  t.events = s.events
    ∨ (∃ a v, t.events = s.events ++ [.regWriteOut .copper a v])
    ∨ ∃ a v, t.events = s.events ++ [.copperDiscard a v]

theorem execMove_events {ra : BitVec 8} {dw : Word} {s t : State} (h : execMove ra dw s = .next t) :
    CopperEvents s t := by
  unfold execMove at h
  split at h
  · exact (regWrite_events h).imp_right .inl
  · cases h; exact .inr (.inr ⟨_, _, rfl⟩)

theorem copperTick_events {s t : State} (h : copperTick s = .next t) : CopperEvents s t := by
  unfold copperTick at h
  obtain ⟨ra, dw, -, e⟩ | ⟨x, -, e⟩ | ⟨x, -, e⟩ := copperExecute_cases (copperFetch s) <;> rw [e] at h
  · exact execMove_events (s := copperFetch s) h
  · unfold execWait at h; split at h <;> cases h <;> exact .inl rfl
  · unfold execSkip at h; split at h <;> cases h <;> exact .inl rfl

theorem ownerCallback_events {s t : State} (h : ownerCallback s = .next t) : CopperEvents s t := by
  obtain ⟨-, htick⟩ | ⟨-, rfl⟩ | ⟨-, -, rfl⟩ := ownerCallback_next h
  · exact copperTick_events htick
  · exact .inl (stepOneWord_events s)
  · exact .inl rfl

theorem advance_events {i : CycleInputs} {s t : State} (h : exec (.advance i) s = .next t) : CopperEvents s t := by
  obtain ⟨u, hu, rfl⟩ := advance_next.1 h
  rw [CopperEvents, endCycle_events]
  exact ownerCallback_events (s := reached i s) hu

/-- Settles O15: the owner's callback writes no field outside the chipset (`ownerCallback_eq`), the CIAs receive only what
clocks them (`advance_software`), and the Copper alone emits (`advance_events`). -/
theorem advanceStaysInsideTheChipset : Obligations.AdvanceStaysInsideTheChipset := by
  intro i s t h
  have hoff : t.zorro = s.zorro ∧ t.fastRam = s.fastRam ∧ t.result = s.result ∧ t.epoch = s.epoch := by
    obtain ⟨u, hu, rfl⟩ := advance_next.1 h
    rw [endCycle_zorro, endCycle_fastRam, endCycle_result, endCycle_epoch, ownerCallback_eq hu]
    exact ⟨rfl, rfl, rfl, rfl⟩
  obtain ⟨hzorro, hfast, hresult, hepoch⟩ := hoff
  refine ⟨hzorro, hfast, hresult, hepoch, fun c => ?_, advance_events h⟩
  simpa only [Cia.software, Cia.mk.injEq, Port.mk.injEq, Timer.mk.injEq, Tod.mk.injEq, true_and, and_true, and_assoc]
    using advance_software h c

end Sys2Proof.Machine
end

section
/-! PROOFS. The Zorro mapper (44_zorro.md): the default autoconfig ROM as numbers (R323, R324), the base address nybbles
(R326, R327), the accesses of the window when it is mapped and when it is not (R322 to R331), and the Fast RAM window a
handshake opens (R330, R334). -/

namespace Sys2Proof.Machine

/-! ### Bit fields as numbers -/

theorem append_toNat {m n : Nat} (x : BitVec m) (y : BitVec n) : (x ++ y).toNat = 2 ^ n * x.toNat + y.toNat := by
  rw [BitVec.toNat_append, ← Nat.shiftLeft_add_eq_or_of_lt y.isLt, Nat.shiftLeft_eq, Nat.mul_comm]

theorem upperNybble_toNat (v : Byte) : (v.extractLsb' 4 4).toNat = v.toNat / 16 := by
  have := v.isLt
  rw [BitVec.extractLsb'_toNat, Nat.shiftRight_eq_div_pow]
  omega

theorem lowerNybble_toNat (v : Byte) : (v.extractLsb' 0 4).toNat = v.toNat % 16 := by simp

theorem invertedNybble_toNat : ∀ n : BitVec 4, (n ^^^ 0xF).toNat = 15 - n.toNat := by decide

/-! ### The default ROM (R323, R324) -/

/-- The Zorro II size code of a fitted board counts the doublings of 64 KiB, modulo 8. -/
theorem code_toNat {size : FastRamSize} (h : 0 < size.bytes) :
    size.code.toNat = if size.bytes = 0x800000 then 0 else Nat.log2 (size.bytes / 0x10000) + 1 := by
  cases size with
  | noBoard => exact absurd h (Nat.lt_irrefl 0)
  | k64 | k128 | k256 | k512 | m1 | m2 | m4 | m8 => rfl

/-- The board's descriptor as numbers. -/
def descriptorNumbers (cfg : Config) : List Nat :=
  [0xE0 + (if cfg.fastRamSize.bytes = 0x800000 then 0 else Nat.log2 (cfg.fastRamSize.bytes / 0x10000) + 1),
    cfg.zorroProduct.toNat, 0x80, 0,
    cfg.zorroManufacturer.toNat / 256, cfg.zorroManufacturer.toNat % 256,
    cfg.zorroSerial.toNat / 16777216, cfg.zorroSerial.toNat / 65536 % 256,
    cfg.zorroSerial.toNat / 256 % 256, cfg.zorroSerial.toNat % 256, 0, 0, 0, 0, 0, 0]

theorem typeByte_toNat : ∀ code : BitVec 3, ((0xE0 : Byte) ||| code.setWidth 8).toNat = 0xE0 + code.toNat := by decide

theorem longHi_toNat (p : Long) : (longHi p).toNat = p.toNat / 65536 := by
  have := p.isLt
  rw [longHi, BitVec.extractLsb'_toNat, Nat.shiftRight_eq_div_pow]
  omega

theorem longLo_toNat (p : Long) : (longLo p).toNat = p.toNat % 65536 := by simp [longLo]

theorem descriptorByte_toNat {cfg : Config} (hfit : 0 < cfg.fastRamSize.bytes) (k : Nat) :
    (descriptorByte cfg k).toNat = (descriptorNumbers cfg)[k]?.getD 0 :=
  match k with
  | 0 => (typeByte_toNat _).trans (congrArg (0xE0 + ·) (code_toNat hfit))
  | 4 => wordHi_toNat _
  | 5 => wordLo_toNat _
  | 6 => by
    change (wordHi (longHi cfg.zorroSerial)).toNat = cfg.zorroSerial.toNat / 16777216
    rw [wordHi_toNat, longHi_toNat]; omega
  | 7 => by
    change (wordLo (longHi cfg.zorroSerial)).toNat = cfg.zorroSerial.toNat / 65536 % 256
    rw [wordLo_toNat, longHi_toNat]
  | 8 => by
    change (wordHi (longLo cfg.zorroSerial)).toNat = cfg.zorroSerial.toNat / 256 % 256
    rw [wordHi_toNat, longLo_toNat]; omega
  | 9 => by
    change (wordLo (longLo cfg.zorroSerial)).toNat = cfg.zorroSerial.toNat % 256
    rw [wordLo_toNat, longLo_toNat]; omega
  | 1 | 2 | 3 | 10 | 11 | 12 | 13 | 14 | 15 | _ + 16 => rfl

theorem romNybble_toNat (cfg : Config) (off : Nat) :
    (romNybble cfg off).toNat =
      let b := (descriptorByte cfg (off / 4)).toNat
      let nyb := if off % 4 = 0 then b / 16 else b % 16
      if off < 4 then nyb else 15 - nyb := by
  have hnyb (b : Byte) :
      (if off % 4 = 0 then b.extractLsb' 4 4 else b.extractLsb' 0 4).toNat
        = if off % 4 = 0 then b.toNat / 16 else b.toNat % 16 := by
    rw [apply_ite BitVec.toNat, upperNybble_toNat, lowerNybble_toNat]
  by_cases hfirst : off < 4
  · simp only [romNybble, if_pos hfirst, if_pos (Nat.div_eq_of_lt hfirst), hnyb]
  · simp only [romNybble, if_neg hfirst, if_neg (show ¬ off / 4 = 0 by omega), invertedNybble_toNat, hnyb]

theorem autoconfigRom_default {cfg : Config} (h : cfg.romRows = []) (off : Nat) :
    autoconfigRom cfg off = defaultRom cfg off := by rw [autoconfigRom, h]; rfl

theorem defaultRom_outside (cfg : Config) {off : Nat} (h : off % 2 = 1 ∨ 0x40 ≤ off) : defaultRom cfg off = 0xFF :=
  if_pos h

theorem defaultRom_toNat {cfg : Config} (hfit : 0 < cfg.fastRamSize.bytes) {off : Nat} (heven : off % 2 = 0)
    (hlt : off < 0x40) :
    (defaultRom cfg off).toNat =
      let b := (descriptorNumbers cfg)[off / 4]?.getD 0
      let nyb := if off % 4 = 0 then b / 16 else b % 16
      16 * (if off < 4 then nyb else 15 - nyb) + 15 := by
  rw [defaultRom, if_neg (by omega), append_toNat, romNybble_toNat, descriptorByte_toNat hfit]
  rfl

/-! ### The base address (R326, R327) -/

theorem setBaseHi_toNat (base : Long) (v : Byte) :
    (setBaseHi base v).toNat
      = 16777216 * (base.toNat / 16777216) + 1048576 * (v.toNat / 16) + base.toNat % 1048576 := by
  have := base.isLt
  rw [setBaseHi, append_toNat, append_toNat, upperNybble_toNat, BitVec.extractLsb'_toNat, BitVec.extractLsb'_toNat,
    Nat.shiftRight_eq_div_pow]
  omega

theorem setBaseLo_toNat (base : Long) (v : Byte) :
    (setBaseLo base v).toNat
      = 1048576 * (base.toNat / 1048576) + 65536 * (v.toNat / 16) + base.toNat % 65536 := by
  have := base.isLt
  rw [setBaseLo, append_toNat, append_toNat, upperNybble_toNat, BitVec.extractLsb'_toNat, BitVec.extractLsb'_toNat,
    Nat.shiftRight_eq_div_pow]
  omega

/-! ### The window (R322, R326 to R331) -/

theorem fastByte_setFastByte (s : State) (a : Nat) (v : Byte) (x : Nat) :
    fastByte (setFastByte s a v) x = if x = a then v else fastByte s x := by
  split
  · rename_i h; rw [h, fastByte_setFastByte_self]
  · rename_i h; exact fastByte_setFastByte_ne s v h

section
variable {s : State} {off : BitVec 16} {v : Byte} {i : Instr}

theorem autoconfigMapped_eq_false (h : s.cfg.fastRamSize.bytes = 0 ∨ s.zorro.fastRamConfigState ≠ 0) :
    autoconfigMapped s = false := by
  rw [← Bool.not_eq_true, autoconfigMapped_iff]
  rintro ⟨hfit, hstate⟩
  exact h.elim hfit.ne' fun hne => hne hstate

theorem exec_autoconfRead_of_mapped (h : autoconfigMapped s = true) :
    exec (.autoconfRead off) s = .next (setResult s (.byte (autoconfigRom s.cfg off.toNat))) := if_pos h

theorem exec_autoconfRead_of_fastRam (h : autoconfigMapped s = false)
    (hin : inFastRam s (autoconfigAddr s.cfg off) = true) :
    exec (.autoconfRead off) s = .next (readFastAt s (autoconfigAddr s.cfg off)) :=
  (if_neg (Bool.eq_false_iff.1 h)).trans (if_pos hin)

theorem exec_autoconfRead_of_unmapped (h : autoconfigMapped s = false)
    (hin : inFastRam s (autoconfigAddr s.cfg off) = false) :
    exec (.autoconfRead off) s
      = .next (raiseUnmapped s (BitVec.ofNat 24 (autoconfigAddr s.cfg off)) .read) :=
  (if_neg (Bool.eq_false_iff.1 h)).trans (if_neg (Bool.eq_false_iff.1 hin))

/-- The three configuring writes with their offsets. -/
def ConfiguringWrite (off : BitVec 16) (v : Byte) (i : Instr) : Prop :=
  (off = 0x48 ∧ i = .autoconfBaseHi v) ∨ (off = 0x4A ∧ i = .autoconfBaseLo v) ∨ (off = 0x4C ∧ i = .autoconfShutup v)

/-- Each of them does the same where the window is not mapped. -/
theorem ConfiguringWrite.exec_of_not_mapped (hi : ConfiguringWrite off v i) (h : autoconfigMapped s = false) :
    exec i s = .next (writeUnmappedWindow s off v) := by
  obtain ⟨rfl, rfl⟩ | ⟨rfl, rfl⟩ | ⟨rfl, rfl⟩ := hi <;> exact if_neg (Bool.eq_false_iff.1 h)

theorem writeUnmappedWindow_of_fastRam (hin : inFastRam s (autoconfigAddr s.cfg off) = true) :
    writeUnmappedWindow s off v
      = setFastByte s (autoconfigAddr s.cfg off - s.zorro.fastRamBaseAddress.toNat) v := if_pos hin

theorem writeUnmappedWindow_of_unmapped (hin : inFastRam s (autoconfigAddr s.cfg off) = false) :
    writeUnmappedWindow s off v
      = raiseUnmapped s (BitVec.ofNat 24 (autoconfigAddr s.cfg off)) .write := if_neg (Bool.eq_false_iff.1 hin)

end

/-- Settles O51: the mapped window by the ROM's numbers (`defaultRom_toNat`) and the base's (`setBaseHi_toNat`,
`setBaseLo_toNat`); the window not mapped by whether Fast RAM covers the address. -/
theorem autoconfigAccesses : Obligations.AutoconfigAccesses := by
  intro off v s
  refine ⟨fun ⟨hfit, hstate⟩ => ?_, ?_⟩
  · have hmapped : autoconfigMapped s = true := (autoconfigMapped_iff s).2 ⟨hfit, hstate⟩
    refine ⟨exec_autoconfRead_of_mapped hmapped, fun hrom hout => ?_, fun hrom heven hlt => ?_,
      ⟨_, setBaseHi_toNat _ v, if_pos hmapped⟩, ⟨_, setBaseLo_toNat _ v, if_pos hmapped⟩, if_pos hmapped⟩
    · rw [autoconfigRom_default hrom, defaultRom_outside _ hout]
    · rw [autoconfigRom_default hrom]
      exact defaultRom_toNat hfit heven hlt
  · rintro hno a rfl
    have hmapped := autoconfigMapped_eq_false hno
    refine ⟨exec_autoconfRead_of_unmapped hmapped, exec_autoconfRead_of_fastRam hmapped, fun i hi => ?_⟩
    rw [ConfiguringWrite.exec_of_not_mapped hi hmapped]
    refine ⟨fun hout => ?_, fun hin => ⟨_, ?_, fastByte_setFastByte s _ v⟩⟩
    · rw [writeUnmappedWindow_of_unmapped hout]; rfl
    · rw [writeUnmappedWindow_of_fastRam hin]; rfl

/-! ### PEEK and POKE by the region they select (45_host.md R343, R344) -/

theorem exec_peek_of_region {s : State} {a : Nat} {r : Region} (ha : a < 2 ^ 24) (hr : regionOf s a = r) :
    exec (.peek a) s = readRegion r a s := by
  change readRegion (regionOf s (cpuAddr a)) (cpuAddr a) s = _
  rw [cpuAddr, Nat.mod_eq_of_lt ha, hr]

theorem exec_poke_of_region {s : State} {a : Nat} {r : Region} (v : Byte) (ha : a < 2 ^ 24) (hr : regionOf s a = r) :
    exec (.poke a v) s = writeRegion r a v s := by
  change writeRegion (regionOf s (cpuAddr a)) (cpuAddr a) v s = _
  rw [cpuAddr, Nat.mod_eq_of_lt ha, hr]

/-- What a row of the map selects depends on the configuration and the mapper alone. -/
theorem rowSelects_congr {s t : State} (hcfg : t.cfg = s.cfg) (hzorro : t.zorro = s.zorro) (row : MapRow) (a : Nat) :
    rowSelects t row a = rowSelects s row a := by
  unfold rowSelects inFastRam autoconfigMapped
  rw [hcfg, hzorro]

theorem regionOf_congr {s t : State} (hcfg : t.cfg = s.cfg) (hzorro : t.zorro = s.zorro) (a : Nat) :
    regionOf t a = regionOf s a := by
  have hrows (rows : List MapRow) : firstRegion t rows a = firstRegion s rows a := by
    induction rows with
    | nil => rfl
    | cons row rest ih => rw [firstRegion, firstRegion, rowSelects_congr hcfg hzorro, ih]
  rw [regionOf, regionOf, hcfg, hrows]

/-- A byte poked where Fast RAM is selected is the byte peeked there, and the only byte changed (44_zorro.md R330). -/
theorem fastRam_readBack {t : State} {a off : Nat} (w : Byte) (ha : a < 2 ^ 24) (hr : regionOf t a = .fastRam off) :
    ∃ u, exec (.poke a w) t = .next u ∧ exec (.peek a) u = .next { u with result := .byte w }
      ∧ ∀ x, x ≠ off → fastByte u x = fastByte t x := by
  have hru : regionOf (setFastByte t off w) a = .fastRam off := by
    rw [regionOf_congr (setFastByte_cfg t off w) (setFastByte_zorro t off w), hr]
  refine ⟨_, exec_poke_of_region w ha hr, ?_, fun x hx => fastByte_setFastByte_ne t w hx⟩
  rw [exec_peek_of_region ha hru, readRegion, fastByte_setFastByte_self]
  rfl

/-- Settles O52: the window is the autoconfig region of the default map (`defaultMap_autoconfig`), and the write of offset
0x48 configures; then `fastRam_readBack`. -/
theorem autoconfigHandshakeMapsFastRam : Obligations.AutoconfigHandshakeMapsFastRam := by
  intro v s hmap hfit hstate
  have hwindow (off : Nat) (hoff : off < 0x10000) : regionOf s (0xE80000 + off) = .autoconfig (BitVec.ofNat 16 off) := by
    rw [regionOf, hmap, defaultMap_autoconfig (by omega) (by omega) hfit hstate, Nat.add_sub_cancel_left]
  have hpoke : exec (.poke 0xE80048 v) s = .next { s with
      zorro := { fastRamBaseAddress := setBaseHi s.zorro.fastRamBaseAddress v, fastRamConfigState := 1 } } := by
    rw [exec_poke_of_region v (by decide) (hwindow 0x48 (by decide))]
    exact if_pos ((autoconfigMapped_iff s).2 ⟨hfit, hstate⟩)
  refine ⟨fun off hoff => ?_, _, hpoke, rfl, fun off w _ hlt hr => fastRam_readBack w hlt hr⟩
  rw [exec_peek_of_region (by omega) (hwindow off hoff), readRegion, BitVec.toNat_ofNat, Nat.mod_eq_of_lt hoff]
  rfl

end Sys2Proof.Machine
end

section
/-! PROOFS. The host port (45_host.md): the step and the requests it refuses (R340, R351), and PEEK and POKE by the region
their address selects (R343, R344). -/

namespace Sys2Proof.Machine

/-! ### The step -/

theorem decode_reservedHostOp {code : Byte} (ops : List Byte) (h : 9 ≤ code.toNat % 16) :
    decode { format := .host, bytes := code :: ops } = .error .reservedHostOp := by
  have hcode : (code.extractLsb' 0 4).toNat = code.toNat % 16 := by simp
  change decodeHost (code.extractLsb' 0 4).toNat ops = _
  rw [hcode]
  unfold decodeHost
  split
  case h_10 => rfl
  all_goals omega

theorem step_of_next {s : State} {e : Encoded} {rest : List Encoded} {i : Instr} (hreq : s.requests = e :: rest)
    (h : acceptRequest e = .ok i) : step s = exec i (startOperation s rest) := by
  rw [step, fetch_cons hreq, h, enterOperation, hreq, List.tail_cons]

theorem step_of_refused {s : State} {e : Encoded} {rest : List Encoded} {r : Refusal} (hreq : s.requests = e :: rest)
    (h : acceptRequest e = .error r) : step s = .refused r := by
  rw [step, fetch_cons hreq, h]

theorem acceptRequest_of_error {e : Encoded} {err : DecodeError} (h : decode e = .error err) :
    acceptRequest e = .error (refusalOf err) := by rw [acceptRequest, h]

theorem acceptRequest_of_ok {e : Encoded} {i : Instr} (h : decode e = .ok i) :
    acceptRequest e = if i.byCopper then .error .copperOperationAtPort else .ok i := by rw [acceptRequest, h]

/-- Settles O4: the step runs what `acceptRequest` accepts of the head of the list, or refuses by its error. -/
theorem stepRunsTheNextRequest : Obligations.StepRunsTheNextRequest := by
  intro s
  refine ⟨fun hnil => by rw [step, fetch_nil hnil], fun e rest hreq => ⟨fun i hdec hhost => ?_, fun i hdec hcop => ?_,
    fun herr => step_of_refused hreq (acceptRequest_of_error herr),
    fun herr => step_of_refused hreq (acceptRequest_of_error herr), fun code ops he hcode => ?_⟩⟩
  · exact step_of_next hreq (by rw [acceptRequest_of_ok hdec, hhost]; rfl)
  · exact step_of_refused hreq (by rw [acceptRequest_of_ok hdec, hcop]; rfl)
  · exact step_of_refused hreq (acceptRequest_of_error (he ▸ decode_reservedHostOp ops hcode))

/-! ### PEEK and POKE -/

theorem exec_peek (addr : Nat) (s : State) :
    exec (.peek addr) s = readRegion (regionOf s (cpuAddr addr)) (cpuAddr addr) s := rfl

theorem exec_poke (addr : Nat) (v : Byte) (s : State) :
    exec (.poke addr v) s = writeRegion (regionOf s (cpuAddr addr)) (cpuAddr addr) v s := rfl

/-! ### The rows of the CIAs and of the autoconfig window are the accesses of their buses -/

theorem ciaRead_of_row {n : Nat} {c : CiaId} {i : Instr} (s : State) (h : ciarRow n c = some i) :
    ciaRead c n s = exec i s := by
  unfold ciarRow at h
  split at h <;> cases h <;> rfl

theorem ciaWrite_of_row {n : Nat} {c : CiaId} {v : Byte} {i : Instr} (s : State) (h : ciawRow n c v = some i) :
    ciaWrite c n v s = exec i s := by
  unfold ciawRow at h
  split at h <;> cases h <;> rfl

theorem autoconfigWrite_of_row {off : BitVec 16} {v : Byte} {i : Instr} (s : State)
    (h : zorrowRow off.toNat v = some i) : autoconfigWrite off v s = exec i s := by
  unfold zorrowRow at h
  split at h <;> cases h <;> (rename_i hoff; unfold autoconfigWrite; rewrite [hoff]; rfl)

theorem autoconfigWrite_of_no_row {off : BitVec 16} {v : Byte} (s : State) (h : zorrowRow off.toNat v = none) :
    autoconfigWrite off v s = .next s := by
  unfold autoconfigWrite
  split
  case h_4 => rfl
  all_goals
    rename_i hoff
    rewrite [hoff] at h
    exact absurd h (Option.some_ne_none _)

/-! ### What a read gives -/

/-- Every register of R118 but 0xB gives a value. -/
theorem ciaRead_gives_value {n : Nat} {c : CiaId} {i : Instr} {s t : State} (hrow : ciarRow n c = some i) (hn : n ≠ 11)
    (h : ciaRead c n s = .next t) : t.result ≠ .noValue := by
  unfold ciarRow at hrow
  split at hrow <;> cases hrow
  case h_12 => exact absurd rfl hn
  all_goals cases h; exact nofun

theorem orUnmapped_of_value {s t : State} {a : Nat} (h : t.result ≠ .noValue) : orUnmapped (.next t) s a = .next t :=
  if_neg h

theorem orUnmapped_next (t s : State) (a : Nat) : ∃ u, orUnmapped (.next t) s a = .next u := by
  unfold orUnmapped
  dsimp only
  split <;> exact ⟨_, rfl⟩

theorem readRegion_total {r : Region} (a : Nat) (s : State) (h : r ≠ .outside) : ∃ t, readRegion r a s = .next t := by
  cases r with
  | cia c n =>
    obtain ⟨t, ht⟩ := ciaRead_total c n s
    rw [readRegion, ht]
    exact orUnmapped_next t s a
  | reg r => unfold readRegion; dsimp only; split <;> exact ⟨_, rfl⟩
  | outside => exact absurd rfl h
  | chip | autoconfig | fastRam | unmapped => exact ⟨_, rfl⟩

theorem registerByte_eq (w : Word) (a : RegAddr) :
    registerByte w a = BitVec.ofNat 8 (if a.toNat % 2 = 0 then w.toNat / 256 else w.toNat) := by
  have hbit : a.getLsbD 0 = decide (a.toNat % 2 = 1) := Nat.testBit_zero _
  apply BitVec.eq_of_toNat_eq
  have hw := w.isLt
  obtain heven | hodd := Nat.mod_two_eq_zero_or_one a.toNat
  · rw [registerByte, if_neg (by rw [hbit]; simp [heven]), if_pos heven, wordHi_toNat, BitVec.toNat_ofNat]
    omega
  · rw [registerByte, if_pos (by rw [hbit]; simp [hodd]), if_neg (by omega), wordLo_toNat, BitVec.toNat_ofNat]

theorem readRegion_cia_of_row {n : Nat} {c : CiaId} {i : Instr} (a : Nat) (s : State) (h : ciarRow n c = some i)
    (hn : n ≠ 11) : readRegion (.cia c n) a s = exec i s := by
  obtain ⟨t, ht⟩ := ciaRead_total c n s
  rw [← ciaRead_of_row s h, readRegion, ht, orUnmapped_of_value (ciaRead_gives_value h hn ht)]

theorem readRegion_reg_of_row {r : RegAddr} {i : Instr} (a : Nat) (s : State) (h : regrRow (regIndex r) = some i) :
    ∃ w, exec i s = .next (setResult s (.word w))
      ∧ readRegion (.reg r) a s = .next (setResult s (.byte (registerByte w r))) := by
  obtain ⟨w, hread, hexec⟩ := regRead_of_row s h
  exact ⟨w, hexec, by rw [readRegion, hread]⟩

theorem readRegion_reg_of_no_row {r : RegAddr} (a : Nat) (s : State) (h : regrRow (regIndex r) = none) :
    readRegion (.reg r) a s = .next (raiseUnmapped s (BitVec.ofNat 24 a) .read) := by
  rw [readRegion, regRead_of_no_row s h]

/-- Settles O54: one clause for each region `readRegion` tells apart; a CIA or register row is the row's operation
(`readRegion_cia_of_row`, `readRegion_reg_of_row`). -/
theorem peekReadsTheSelectedRegion : Obligations.PeekReadsTheSelectedRegion := by
  intro addr s a gives missing
  have hpeek {r : Region} (hr : regionOf s a = r) : exec (.peek addr) s = readRegion r a s := by
    rw [exec_peek, ← hr]; rfl
  refine ⟨fun hr => ?_, hpeek, fun o => hpeek, fun c n i hr hn hrow => ?_, fun c => hpeek, fun r hr => ⟨fun i hrow => ?_,
    fun hrow => ?_⟩, fun off => hpeek, fun o => hpeek, hpeek⟩
  · rw [hpeek rfl]
    exact readRegion_total a s hr
  · rw [hpeek hr, readRegion_cia_of_row a s hrow hn]
  · obtain ⟨w, hexec, hread⟩ := readRegion_reg_of_row a s hrow
    exact ⟨w, hexec, by rw [← registerByte_eq]; exact (hpeek hr).trans hread⟩
  · exact (hpeek hr).trans (readRegion_reg_of_no_row a s hrow)

/-! ### What a write does -/

theorem chipByte_setChipByte (s : State) (a : Nat) (v : Byte) (x : Nat) :
    chipByte (setChipByte s a v) x = if x = a then v else chipByte s x := by
  split
  · rename_i h; rw [h, chipByte_setChipByte_self]
  · rename_i h; exact chipByte_setChipByte_ne s v h

/-- Settles O55: one clause for each region `writeRegion` tells apart; a CIA or autoconfig row is the row's operation, and
a byte of RAM is the only one changed. -/
theorem pokeWritesTheSelectedRegion : Obligations.PokeWritesTheSelectedRegion := by
  intro addr v s a
  have hpoke {r : Region} (hr : regionOf s a = r) : exec (.poke addr v) s = writeRegion r a v s := by
    rw [exec_poke, ← hr]; rfl
  exact ⟨hpoke, fun o hr => ⟨_, hpoke hr, chipByte_setChipByte s o v⟩,
    fun c n i hr hrow => (hpoke hr).trans (ciaWrite_of_row s hrow), fun r => hpoke,
    fun off hr => ⟨fun i hrow => (hpoke hr).trans (autoconfigWrite_of_row s hrow),
      fun hrow => (hpoke hr).trans (autoconfigWrite_of_no_row s hrow)⟩,
    fun o hr => ⟨_, hpoke hr, fastByte_setFastByte s o v⟩, hpoke⟩

end Sys2Proof.Machine
end

section
/-! PROOFS. Snapshots (45_host.md R347 to R354): each reader of the codec gives a value exactly where the matching writer's
bytes of that value stand; so the encoding of a legal state loads as that state, whatever follows it, and a buffer that
loads begins with the encoding of what it gives. -/

namespace Sys2Proof.Machine

/-! ### Numbers and flags -/

theorem getBytes_eq_some_iff {k : Nat} {bs xs rest : List Byte} :
    getBytes k bs = some (xs, rest) ↔ xs.length = k ∧ bs = xs ++ rest := by
  constructor
  · intro h
    refine ⟨getBytes_length h, ?_⟩
    obtain ⟨-, h⟩ := Option.ite_none_right_eq_some.1 h
    cases h
    exact (List.take_append_drop k bs).symm
  · rintro ⟨hlen, rfl⟩
    exact getBytes_append hlen

theorem getNat_eq_some_iff {k n : Nat} {bs rest : List Byte} :
    getNat k bs = some (n, rest) ↔ bs = bigEndian k n ++ rest ∧ n < 256 ^ k := by
  constructor
  · intro h
    obtain ⟨⟨xs, ys⟩, hbytes, h⟩ := Option.map_eq_some_iff.1 h
    cases h
    obtain ⟨rfl, rfl⟩ := getBytes_eq_some_iff.1 hbytes
    exact ⟨by rw [bigEndian_ofBigEndian], ofBigEndian_lt xs⟩
  · rintro ⟨rfl, hlt⟩
    exact getNat_bigEndian rest hlt

theorem getBits_eq_some_iff {w k : Nat} {v : BitVec w} {bs rest : List Byte} (hw : w ≤ 8 * k) :
    getBits w k bs = some (v, rest) ↔ bs = putBits k v ++ rest := by
  constructor
  · intro h
    unfold getBits at h
    split at h
    · rename_i n ys hnat
      obtain ⟨hlt, h⟩ := Option.ite_none_right_eq_some.1 h
      cases h
      rw [putBits, BitVec.toNat_ofNat, Nat.mod_eq_of_lt hlt]
      exact (getNat_eq_some_iff.1 hnat).1
    · cases h
  · rintro rfl
    exact getBits_putBits v rest hw

theorem getBool_eq_some_iff {b : Bool} {bs rest : List Byte} :
    getBool bs = some (b, rest) ↔ bs = putBool b ++ rest := by
  constructor
  · intro h
    unfold getBool at h
    split at h
    · split at h
      · rename_i hzero; cases h; rw [hzero]; rfl
      · obtain ⟨hone, h⟩ := Option.ite_none_right_eq_some.1 h
        cases h; rw [hone]; rfl
    · cases h
  · rintro rfl
    exact getBool_putBool b rest

theorem ownerOfCode_eq_some_iff {n : Nat} {o : Option Owner} : ownerOfCode n = some o ↔ n = ownerCode o := by
  constructor
  · intro h
    cases n with
    | zero => cases h; rfl
    | succ k =>
      obtain ⟨x, hx, rfl⟩ := Option.map_eq_some_iff.1 h
      obtain ⟨hk, rfl⟩ := List.getElem?_eq_some_iff.1 hx
      have hnodup : globalOrder.Nodup := by decide
      rw [ownerCode, hnodup.idxOf_getElem]
  · rintro rfl
    exact ownerOfCode_ownerCode o

theorem ownerCode_lt (o : Option Owner) : ownerCode o < 256 := lt_of_le_of_lt (ownerCode_le o) (by decide)

theorem listIdOfCode_eq_some_iff {n : Nat} {i : ListId} : listIdOfCode n = some i ↔ n = listIdCode i := by
  constructor
  · intro h
    unfold listIdOfCode at h
    split at h <;> cases h <;> rfl
  · rintro rfl
    exact listIdOfCode_listIdCode i

theorem listIdCode_lt (i : ListId) : listIdCode i < 256 := by cases i <;> decide

/-! ### The frame number (log 11) -/

theorem putSeq_of_lt {n : Nat} (h : n < seqMarker) : putSeq n = bigEndian 8 n := by
  rw [putSeq, Nat.div_eq_of_lt h, Nat.mod_eq_of_lt h, putMarkers]

theorem putSeq_add_seqMarker (n : Nat) : putSeq (n + seqMarker) = bigEndian 8 seqMarker ++ putSeq n := by
  rw [putSeq, putSeq, Nat.add_div_right _ seqMarker_pos, Nat.add_mod_right, putMarkers]

theorem length_putSeq (n : Nat) : (putSeq n).length = 8 * (n / seqMarker) + 8 := by
  rw [putSeq, length_putMarkers, length_bigEndian]

/-- A frame number begins with a marker, or is all of eight bytes that are none. -/
theorem getSeq_some {fuel n : Nat} {bs rest : List Byte} (h : getSeq fuel bs = some (n, rest)) :
    (bs = bigEndian 8 n ++ rest ∧ n < seqMarker)
      ∨ ∃ k m ys, fuel = k + 1 ∧ bs = bigEndian 8 seqMarker ++ ys ∧ getSeq k ys = some (m, rest) ∧ n = m + seqMarker := by
  unfold getSeq at h
  split at h
  · cases h
  · rename_i first ys hfirst
    obtain ⟨rfl, hlt⟩ := getNat_eq_some_iff.1 hfirst
    split at h
    · rename_i hmarker
      split at h
      · cases h
      · obtain ⟨⟨m, zs⟩, hrest, h⟩ := Option.map_eq_some_iff.1 h
        cases h
        exact .inr ⟨_, m, ys, rfl, by rw [hmarker], hrest, rfl⟩
    · rename_i hmarker
      cases h
      have hbytes : 256 ^ 8 = seqMarker + 1 := rfl
      exact .inl ⟨rfl, by omega⟩

theorem putSeq_of_getSeq {fuel n : Nat} {bs rest : List Byte} (h : getSeq fuel bs = some (n, rest)) :
    bs = putSeq n ++ rest := by
  induction fuel generalizing n bs with
  | zero =>
    obtain ⟨rfl, hlt⟩ | ⟨k, -, -, hk, -⟩ := getSeq_some h
    · rw [putSeq_of_lt hlt]
    · cases hk
  | succ fuel ih =>
    obtain ⟨rfl, hlt⟩ | ⟨k, m, ys, hk, rfl, hrest, rfl⟩ := getSeq_some h
    · rw [putSeq_of_lt hlt]
    · cases hk
      rw [putSeq_add_seqMarker, ih hrest, List.append_assoc]

/-- The length of the buffer is fuel enough: every marker takes eight bytes of it. -/
theorem getSeq_eq_some_iff {n : Nat} {bs rest : List Byte} :
    getSeq bs.length bs = some (n, rest) ↔ bs = putSeq n ++ rest := by
  constructor
  · exact putSeq_of_getSeq
  · rintro rfl
    refine getSeq_putSeq n _ rest ?_
    rw [List.length_append, length_putSeq]
    omega

/-! ### A field at the head of a record -/

section
variable {α β : Type} {o : Option (α × List Byte)} {put : α → List Byte} {fits : α → Prop} {bs : List Byte}
  {f : α × List Byte → Option β} {r : β}

/-- A record is read if its first field is and the rest of it is read behind that. -/
theorem bind_read (ho : ∀ {x ys}, o = some (x, ys) ↔ bs = put x ++ ys) :
    o.bind f = some r ↔ ∃ x ys, bs = put x ++ ys ∧ f (x, ys) = some r := by
  simp only [Option.bind_eq_some_iff, Prod.exists, ho]

/-- The same for a field whose bytes hold only some of its values. -/
theorem bind_read_fits (ho : ∀ {x ys}, o = some (x, ys) ↔ bs = put x ++ ys ∧ fits x) :
    o.bind f = some r ↔ ∃ x ys, (bs = put x ++ ys ∧ fits x) ∧ f (x, ys) = some r := by
  simp only [Option.bind_eq_some_iff, Prod.exists, ho]

end

/-! ### The records: their fields in turn

The short records go by `simp` from the readings of their fields, with `Bool.exists_bool` off, which would try both values
of every flag; the long ones go field by field, by `bind_read`. -/

theorem getFrame_eq_some_iff {f : Frame} {bs rest : List Byte} :
    getFrame bs = some (f, rest) ↔ bs = putFrame f ++ rest := by
  obtain ⟨_, _, _⟩ := f
  simp [-Bool.exists_bool, getFrame, putFrame, Option.bind_eq_some_iff, getSeq_eq_some_iff, getBool_eq_some_iff]

theorem getAgnus_eq_some_iff {cfg : Config} {a : Agnus} {bs rest : List Byte} :
    getAgnus cfg bs = some (a, rest) ↔ bs = putAgnus cfg a ++ rest ∧ a.ciaPhase < 256 ^ phaseBytes cfg := by
  obtain ⟨_, _, _, _, _, _, _⟩ := a
  simp [-Bool.exists_bool, getAgnus, putAgnus, Option.bind_eq_some_iff, getBool_eq_some_iff, getBits_eq_some_iff,
    getNat_eq_some_iff, ownerOfCode_eq_some_iff, ownerCode_lt]

theorem getCopper_eq_some_iff {c : Copper} {bs rest : List Byte} :
    getCopper bs = some (c, rest) ↔ bs = putCopper c ++ rest := by
  constructor
  · intro h
    iterate 3 obtain ⟨_, _, _, h⟩ := (bind_read (getBits_eq_some_iff (by decide))).1 h
    obtain ⟨_, _, ⟨_, _⟩, h⟩ := (bind_read_fits getNat_eq_some_iff).1 h
    obtain ⟨_, hid, h⟩ := Option.bind_eq_some_iff.1 h
    iterate 3 obtain ⟨_, _, _, h⟩ := (bind_read getBool_eq_some_iff).1 h
    iterate 2 obtain ⟨_, _, _, h⟩ := (bind_read (getBits_eq_some_iff (by decide))).1 h
    cases h
    obtain rfl := listIdOfCode_eq_some_iff.1 hid
    subst_vars
    simp only [putCopper, List.append_assoc]
  · rintro rfl
    simp only [putCopper, List.append_assoc]
    iterate 3 refine (bind_read (getBits_eq_some_iff (by decide))).2 ⟨_, _, rfl, ?_⟩
    refine (bind_read_fits getNat_eq_some_iff).2 ⟨_, _, ⟨rfl, listIdCode_lt c.activeListId⟩, ?_⟩
    refine Option.bind_eq_some_iff.2 ⟨_, listIdOfCode_listIdCode c.activeListId, ?_⟩
    iterate 3 refine (bind_read getBool_eq_some_iff).2 ⟨_, _, rfl, ?_⟩
    iterate 2 refine (bind_read (getBits_eq_some_iff (by decide))).2 ⟨_, _, rfl, ?_⟩
    rfl

/-- The counters fit the bytes a snapshot gives them. -/
structure Blitter.CountersFit (b : Blitter) : Prop where
  width : b.width < 256 ^ 1
  height : b.height < 256 ^ 2
  xCounter : b.xCounter < 256 ^ 1
  yCounter : b.yCounter < 256 ^ 2

/-- `b` with the control words, masks, pointers and modulos of `r`. -/
def Blitter.withRegs (b r : Blitter) : Blitter :=
  { b with
    control0 := r.control0, control1 := r.control1, firstMask := r.firstMask, lastMask := r.lastMask,
    ptrA := r.ptrA, ptrB := r.ptrB, ptrC := r.ptrC, ptrD := r.ptrD,
    modA := r.modA, modB := r.modB, modC := r.modC, modD := r.modD }

theorem getBlitterRegs_eq_some_iff {b r : Blitter} {bs rest : List Byte} :
    getBlitterRegs b bs = some (r, rest) ↔ bs = putBlitterRegs r ++ rest ∧ r = b.withRegs r := by
  constructor
  · intro h
    iterate 12 obtain ⟨_, _, _, h⟩ := (bind_read (getBits_eq_some_iff (by decide))).1 h
    cases h
    subst_vars
    exact ⟨by simp only [putBlitterRegs, List.append_assoc], rfl⟩
  · rintro ⟨rfl, hr⟩
    simp only [putBlitterRegs, List.append_assoc]
    iterate 12 refine (bind_read (getBits_eq_some_iff (by decide))).2 ⟨_, _, rfl, ?_⟩
    exact congrArg (fun x => some (x, rest)) hr.symm

theorem getBlitterData_eq_some_iff {r b : Blitter} {bs rest : List Byte} :
    getBlitterData r bs = some (b, rest) ↔ bs = putBlitterData b ++ rest ∧ b.CountersFit ∧ b = b.withRegs r := by
  constructor
  · intro h
    iterate 6 obtain ⟨_, _, _, h⟩ := (bind_read (getBits_eq_some_iff (by decide))).1 h
    iterate 5 obtain ⟨_, _, _, h⟩ := (bind_read getBool_eq_some_iff).1 h
    obtain ⟨_, _, ⟨_, hw⟩, h⟩ := (bind_read_fits getNat_eq_some_iff).1 h
    obtain ⟨_, _, ⟨_, hh⟩, h⟩ := (bind_read_fits getNat_eq_some_iff).1 h
    obtain ⟨_, _, ⟨_, hx⟩, h⟩ := (bind_read_fits getNat_eq_some_iff).1 h
    obtain ⟨_, _, ⟨_, hy⟩, h⟩ := (bind_read_fits getNat_eq_some_iff).1 h
    cases h
    subst_vars
    exact ⟨by simp only [putBlitterData, List.append_assoc], ⟨hw, hh, hx, hy⟩, rfl⟩
  · rintro ⟨rfl, ⟨hw, hh, hx, hy⟩, hb⟩
    simp only [putBlitterData, List.append_assoc]
    iterate 6 refine (bind_read (getBits_eq_some_iff (by decide))).2 ⟨_, _, rfl, ?_⟩
    iterate 5 refine (bind_read getBool_eq_some_iff).2 ⟨_, _, rfl, ?_⟩
    refine (bind_read_fits getNat_eq_some_iff).2 ⟨_, _, ⟨rfl, hw⟩, ?_⟩
    refine (bind_read_fits getNat_eq_some_iff).2 ⟨_, _, ⟨rfl, hh⟩, ?_⟩
    refine (bind_read_fits getNat_eq_some_iff).2 ⟨_, _, ⟨rfl, hx⟩, ?_⟩
    refine (bind_read_fits getNat_eq_some_iff).2 ⟨_, _, ⟨rfl, hy⟩, ?_⟩
    exact congrArg (fun x => some (x, rest)) hb.symm

theorem getPort_eq_some_iff {p : Port} {bs rest : List Byte} :
    getPort bs = some (p, rest) ↔ bs = putPort p ++ rest := by
  obtain ⟨_, _, _⟩ := p
  simp [getPort, putPort, Option.bind_eq_some_iff, getBits_eq_some_iff]

theorem getTimer_eq_some_iff {t : Timer} {bs rest : List Byte} :
    getTimer bs = some (t, rest) ↔ bs = putTimer t ++ rest := by
  obtain ⟨_, _, _, _, _⟩ := t
  simp [-Bool.exists_bool, getTimer, putTimer, Option.bind_eq_some_iff, getBits_eq_some_iff, getBool_eq_some_iff]

/-- The three numbers fit the bytes a snapshot gives them. -/
structure Tod.Fits (cfg : Config) (t : Tod) : Prop where
  value : t.value < 256 ^ todBytes cfg
  latch : t.latch < 256 ^ todBytes cfg
  alarm : t.alarm < 256 ^ todBytes cfg

theorem getTod_eq_some_iff {cfg : Config} {t : Tod} {bs rest : List Byte} :
    getTod cfg bs = some (t, rest) ↔ bs = putTod cfg t ++ rest ∧ t.Fits cfg := by
  constructor
  · intro h
    obtain ⟨_, _, ⟨_, hv⟩, h⟩ := (bind_read_fits getNat_eq_some_iff).1 h
    obtain ⟨_, _, ⟨_, hl⟩, h⟩ := (bind_read_fits getNat_eq_some_iff).1 h
    obtain ⟨_, _, ⟨_, ha⟩, h⟩ := (bind_read_fits getNat_eq_some_iff).1 h
    cases h
    subst_vars
    exact ⟨by simp only [putTod, List.append_assoc], hv, hl, ha⟩
  · rintro ⟨rfl, hv, hl, ha⟩
    simp only [putTod, List.append_assoc]
    refine (bind_read_fits getNat_eq_some_iff).2 ⟨_, _, ⟨rfl, hv⟩, ?_⟩
    refine (bind_read_fits getNat_eq_some_iff).2 ⟨_, _, ⟨rfl, hl⟩, ?_⟩
    refine (bind_read_fits getNat_eq_some_iff).2 ⟨_, _, ⟨rfl, ha⟩, ?_⟩
    rfl

theorem getCiaState_eq_some_iff {cfg : Config} {x : Cia} {bs rest : List Byte} :
    getCiaState cfg bs = some (x, rest) ↔ bs = putCia cfg x ++ rest ∧ x.tod.Fits cfg := by
  constructor
  · intro h
    iterate 2 obtain ⟨_, _, _, h⟩ := (bind_read getPort_eq_some_iff).1 h
    iterate 2 obtain ⟨_, _, _, h⟩ := (bind_read getTimer_eq_some_iff).1 h
    iterate 4 obtain ⟨_, _, _, h⟩ := (bind_read (getBits_eq_some_iff (by decide))).1 h
    obtain ⟨_, _, _, h⟩ := (bind_read getBool_eq_some_iff).1 h
    obtain ⟨_, _, ⟨_, htod⟩, h⟩ := (bind_read_fits getTod_eq_some_iff).1 h
    iterate 2 obtain ⟨_, _, _, h⟩ := (bind_read getBool_eq_some_iff).1 h
    cases h
    subst_vars
    exact ⟨by simp only [putCia, List.append_assoc], htod⟩
  · rintro ⟨rfl, htod⟩
    simp only [putCia, List.append_assoc]
    iterate 2 refine (bind_read getPort_eq_some_iff).2 ⟨_, _, rfl, ?_⟩
    iterate 2 refine (bind_read getTimer_eq_some_iff).2 ⟨_, _, rfl, ?_⟩
    iterate 4 refine (bind_read (getBits_eq_some_iff (by decide))).2 ⟨_, _, rfl, ?_⟩
    refine (bind_read getBool_eq_some_iff).2 ⟨_, _, rfl, ?_⟩
    refine (bind_read_fits getTod_eq_some_iff).2 ⟨_, _, ⟨rfl, htod⟩, ?_⟩
    iterate 2 refine (bind_read getBool_eq_some_iff).2 ⟨_, _, rfl, ?_⟩
    rfl

theorem getZorro_eq_some_iff {z : Zorro} {bs rest : List Byte} :
    getZorro bs = some (z, rest) ↔ bs = putZorro z ++ rest := by
  obtain ⟨_, _⟩ := z
  simp [getZorro, putZorro, Option.bind_eq_some_iff, getBits_eq_some_iff]

/-! ### The whole state -/

/-- What a snapshot of `s` needs to be read back: its numbers fit the bytes they are given. -/
structure State.Fits (s : State) : Prop where
  phase : s.agnus.ciaPhase < 256 ^ phaseBytes s.cfg
  counters : s.blt.CountersFit
  todA : s.ciaA.tod.Fits s.cfg
  todB : s.ciaB.tod.Fits s.cfg

theorem Cia.Legal.todFits {cfg : Config} {x : Cia} (h : x.Legal cfg.todBits) : x.tod.Fits cfg :=
  ⟨tod_lt h.value, tod_lt h.latch, tod_lt h.alarm⟩

theorem Blitter.Legal.countersFit {b : Blitter} (h : b.Legal) : b.CountersFit :=
  ⟨lt_of_le_of_lt h.width_le (by decide), lt_of_le_of_lt h.height_le (by decide), lt_of_le_of_lt h.x_le (by decide),
    lt_of_le_of_lt h.y_le (by decide)⟩

theorem State.Legal.fits {s : State} (h : s.Legal) : s.Fits :=
  ⟨Machine.phase_lt h.phase_lt, h.blt.countersFit, h.ciaA.todFits, h.ciaB.todFits⟩

/-- `u` after the snapshot of `s` is loaded into it. -/
def loaded (u s : State) : State :=
  { u with
    frame := s.frame, line := s.line, cycle := s.cycle, agnus := s.agnus, cop := s.cop, blt := s.blt, ciaA := s.ciaA,
    ciaB := s.ciaB, zorro := s.zorro,
    chipRam := Memory.ofBytes 0 (chipContents s), fastRam := Memory.ofBytes 0 (fastContents s) }

theorem length_chipContents (s : State) : (chipContents s).length = s.cfg.chipRamSize := by simp [chipContents]

theorem length_fastContents (s : State) : (fastContents s).length = s.cfg.fastRamSize.bytes := by simp [fastContents]

/-! The Blitter is read in two parts, the second into the first. -/

theorem getBlitterRegs_putBlitterRegs (b r : Blitter) (rest : List Byte) :
    getBlitterRegs b (putBlitterRegs r ++ rest) = some (b.withRegs r, rest) :=
  getBlitterRegs_eq_some_iff.2 ⟨rfl, rfl⟩

theorem getBlitterData_putBlitterData {b : Blitter} (r : Blitter) (h : b.CountersFit) (rest : List Byte) :
    getBlitterData (r.withRegs b) (putBlitterData b ++ rest) = some (b, rest) :=
  getBlitterData_eq_some_iff.2 ⟨rfl, h, rfl⟩

/-- A snapshot reads back (law L1 of 45_host.md R347): each field in turn, from the bytes its writer put. -/
theorem getState_encodeState {s u : State} (hfits : s.Fits) (hcfg : u.cfg = s.cfg) (rest : List Byte) :
    getState u (encodeState s ++ rest) = some (loaded u s, rest) := by
  simp only [encodeState, List.append_assoc]
  refine (bind_read getFrame_eq_some_iff).2 ⟨_, _, rfl, ?_⟩
  iterate 2 refine (bind_read (getBits_eq_some_iff (by decide))).2 ⟨_, _, rfl, ?_⟩
  rw [hcfg]
  refine (bind_read_fits getAgnus_eq_some_iff).2 ⟨_, _, ⟨rfl, hfits.phase⟩, ?_⟩
  refine (bind_read getCopper_eq_some_iff).2 ⟨_, _, rfl, ?_⟩
  refine Option.bind_eq_some_iff.2 ⟨_, getBlitterRegs_putBlitterRegs _ _ _, ?_⟩
  refine Option.bind_eq_some_iff.2 ⟨_, getBlitterData_putBlitterData _ hfits.counters _, ?_⟩
  refine (bind_read_fits getCiaState_eq_some_iff).2 ⟨_, _, ⟨rfl, hfits.todA⟩, ?_⟩
  refine (bind_read_fits getCiaState_eq_some_iff).2 ⟨_, _, ⟨rfl, hfits.todB⟩, ?_⟩
  refine (bind_read getZorro_eq_some_iff).2 ⟨_, _, rfl, ?_⟩
  refine Option.bind_eq_some_iff.2 ⟨_, getBytes_append (length_chipContents s), ?_⟩
  refine Option.bind_eq_some_iff.2 ⟨_, getBytes_append (length_fastContents s), ?_⟩
  rw [loaded, hcfg]
  rfl

theorem find_ofBytes_zero (bs : List Byte) (a : Nat) : (Memory.ofBytes 0 bs).find a = bs[a]? := by
  simpa using find_ofBytes 0 bs a

/-! A memory that lists a whole array gives that array, whatever the launch values are (log 13). -/

theorem chipContents_of_ofBytes {s : State} {bs : List Byte} (h : s.chipRam = Memory.ofBytes 0 bs)
    (hlen : bs.length = s.cfg.chipRamSize) : chipContents s = bs :=
  List.ext_getElem ((length_chipContents s).trans hlen.symm) fun a _ ha => by
    simp [chipContents, chipByte, h, find_ofBytes_zero, ha]

theorem fastContents_of_ofBytes {s : State} {bs : List Byte} (h : s.fastRam = Memory.ofBytes 0 bs)
    (hlen : bs.length = s.cfg.fastRamSize.bytes) : fastContents s = bs :=
  List.ext_getElem ((length_fastContents s).trans hlen.symm) fun a _ ha => by
    simp [fastContents, fastByte, h, find_ofBytes_zero, ha]

theorem chipByte_of_chipContents {s t : State} (hcfg : t.cfg = s.cfg) (h : chipContents t = chipContents s) {a : Nat}
    (ha : a < s.cfg.chipRamSize) : chipByte s a = chipByte t a := by
  rw [chipContents, chipContents, hcfg, List.map_inj_left] at h
  exact (h a (List.mem_range.2 ha)).symm

theorem fastByte_of_fastContents {s t : State} (hcfg : t.cfg = s.cfg) (h : fastContents t = fastContents s) {a : Nat}
    (ha : a < s.cfg.fastRamSize.bytes) : fastByte s a = fastByte t a := by
  rw [fastContents, fastContents, hcfg, List.map_inj_left] at h
  exact (h a (List.mem_range.2 ha)).symm

/-- The two parts of a Blitter that was read are those of the Blitter they make up. -/
theorem blitter_of_read {r b : Blitter} {bs ys rest : List Byte} (hregs : getBlitterRegs Blitter.reset bs = some (r, ys))
    (hdata : getBlitterData r ys = some (b, rest)) : bs = putBlitterRegs b ++ (putBlitterData b ++ rest) := by
  obtain ⟨rfl, -⟩ := getBlitterRegs_eq_some_iff.1 hregs
  obtain ⟨rfl, -, hb⟩ := getBlitterData_eq_some_iff.1 hdata
  have hsame : putBlitterRegs b = putBlitterRegs r := by rw [hb]; rfl
  rw [hsame]

/-- What is read was written (law L2 of 45_host.md R347): the bytes taken are the encoding of the state they give. -/
theorem encodeState_of_getState {u t : State} {bs rest : List Byte} (h : getState u bs = some (t, rest)) :
    bs = encodeState t ++ rest := by
  replace ⟨_, _, hframe, h⟩ := (bind_read getFrame_eq_some_iff).1 h
  replace ⟨_, _, hline, h⟩ := (bind_read (getBits_eq_some_iff (by decide))).1 h
  replace ⟨_, _, hcycle, h⟩ := (bind_read (getBits_eq_some_iff (by decide))).1 h
  replace ⟨_, _, ⟨hagnus, _⟩, h⟩ := (bind_read_fits getAgnus_eq_some_iff).1 h
  replace ⟨_, _, hcop, h⟩ := (bind_read getCopper_eq_some_iff).1 h
  replace ⟨⟨_, _⟩, hregs, h⟩ := Option.bind_eq_some_iff.1 h
  replace ⟨⟨_, _⟩, hdata, h⟩ := Option.bind_eq_some_iff.1 h
  replace ⟨_, _, ⟨hciaA, _⟩, h⟩ := (bind_read_fits getCiaState_eq_some_iff).1 h
  replace ⟨_, _, ⟨hciaB, _⟩, h⟩ := (bind_read_fits getCiaState_eq_some_iff).1 h
  replace ⟨_, _, hzorro, h⟩ := (bind_read getZorro_eq_some_iff).1 h
  replace ⟨⟨chip, _⟩, hchip, h⟩ := Option.bind_eq_some_iff.1 h
  replace ⟨⟨fast, _⟩, hfast, h⟩ := Option.bind_eq_some_iff.1 h
  obtain ⟨hchipLen, hchip⟩ := getBytes_eq_some_iff.1 hchip
  obtain ⟨hfastLen, hfast⟩ := getBytes_eq_some_iff.1 hfast
  have hblt := blitter_of_read hregs hdata
  have hchipRam : chipContents t = chip := by cases h; exact chipContents_of_ofBytes rfl hchipLen
  have hfastRam : fastContents t = fast := by cases h; exact fastContents_of_ofBytes rfl hfastLen
  rw [encodeState, hchipRam, hfastRam]
  cases h
  rw [hframe, hline, hcycle, hagnus, hcop, hblt, hciaA, hciaB, hzorro, hchip, hfast]
  simp only [List.append_assoc]

/-! ### The length of an encoding (45_host.md R348, R354) -/

theorem length_putBool (b : Bool) : (putBool b).length = 1 := rfl

theorem length_putBits {w : Nat} (k : Nat) (v : BitVec w) : (putBits k v).length = k := length_bigEndian k _

theorem length_putFrame (f : Frame) : (putFrame f).length = 8 * (f.sequenceNumber / seqMarker) + 10 := by
  simp only [putFrame, List.length_append, length_putSeq, length_putBool]

theorem length_putAgnus (cfg : Config) (a : Agnus) : (putAgnus cfg a).length = 7 + phaseBytes cfg := by
  simp only [putAgnus, List.length_append, length_putBits, length_putBool, length_bigEndian]

theorem length_putCopper (c : Copper) : (putCopper c).length = 20 := by
  simp only [putCopper, List.length_append, length_putBits, length_putBool, length_bigEndian]

theorem length_putBlitterRegs (b : Blitter) : (putBlitterRegs b).length = 32 := by
  simp only [putBlitterRegs, List.length_append, length_putBits]

theorem length_putBlitterData (b : Blitter) : (putBlitterData b).length = 23 := by
  simp only [putBlitterData, List.length_append, length_putBits, length_putBool, length_bigEndian]

theorem length_putPort (p : Port) : (putPort p).length = 3 := by
  simp only [putPort, List.length_append, length_putBits]

theorem length_putTimer (t : Timer) : (putTimer t).length = 7 := by
  simp only [putTimer, List.length_append, length_putBits, length_putBool]

theorem length_putTod (cfg : Config) (t : Tod) : (putTod cfg t).length = 3 * todBytes cfg := by
  simp only [putTod, List.length_append, length_bigEndian]
  omega

theorem length_putCia (cfg : Config) (x : Cia) : (putCia cfg x).length = 27 + 3 * todBytes cfg := by
  simp only [putCia, List.length_append, length_putBits, length_putBool, length_putPort, length_putTimer, length_putTod]
  omega

theorem length_putZorro (z : Zorro) : (putZorro z).length = 5 := by
  simp only [putZorro, List.length_append, length_putBits]

theorem length_encodeState (s : State) : (encodeState s).length = snapshotSize s := by
  simp only [encodeState, List.length_append, length_putFrame, length_putBits, length_putAgnus, length_putCopper,
    length_putBlitterRegs, length_putBlitterData, length_putCia, length_putZorro, length_chipContents,
    length_fastContents, snapshotSize]
  omega

theorem encodeState_ne_nil (s : State) : encodeState s ≠ [] := by
  intro h
  have hlen := length_encodeState s
  rw [h, snapshotSize, List.length_nil] at hlen
  omega

/-- A divider that R354 covers has its phase in two bytes. -/
theorem phaseBytes_eq_two {cfg : Config} (h : cfg.ciaDivider ≤ 65536) : phaseBytes cfg = 2 := by
  have hlog : Nat.log2 (cfg.ciaDivider - 1) < 16 := by
    by_cases hzero : cfg.ciaDivider - 1 = 0
    · rw [hzero]; decide
    · exact (Nat.log2_lt hzero).2 (by omega)
  unfold phaseBytes
  omega

theorem snapshotSize_of_covered {s : State} (hseq : s.frame.sequenceNumber < 2 ^ 64 - 1)
    (hdivider : s.cfg.ciaDivider ≤ 65536) (htod : s.cfg.todBits = 24) :
    snapshotSize s = 174 + s.cfg.chipRamSize + s.cfg.fastRamSize.bytes := by
  have hmarkers : s.frame.sequenceNumber / seqMarker = 0 := Nat.div_eq_of_lt hseq
  have htodBytes : todBytes s.cfg = 3 := by rw [todBytes, htod]
  rw [snapshotSize, phaseBytes_eq_two hdivider, htodBytes, hmarkers]
  omega

/-- Settles O57: `snapshotSize` is the encoding's length (`length_encodeState`), with every field's bytes counted. -/
theorem snapshotSizeAndSave : Obligations.SnapshotSizeAndSave := by
  intro cap s
  rw [length_encodeState]
  exact ⟨rfl, fun hle => if_neg (Nat.not_lt.2 hle), fun hlt => if_pos hlt, snapshotSize_of_covered⟩

/-! ### SNAPLOAD (45_host.md R350) -/

/-- A buffer of a legal state loads it and takes exactly its encoding. -/
theorem exec_snapload_of_getState {u t : State} {bs rest : List Byte} (h : getState u bs = some (t, rest))
    (hlegal : fieldsLegal t = true) :
    exec (.snapload bs) u = .next (setResult t (.consumed (encodeState t).length)) := by
  have hlen : bs.length - rest.length = (encodeState t).length := by
    rw [encodeState_of_getState h, List.length_append, Nat.add_sub_cancel]
  have hdecode : decodeState u bs = some (t, (encodeState t).length) := by
    rw [decodeState, h, ← hlen]
    exact if_pos hlegal
  change execSnapload bs u = _
  rw [execSnapload, hdecode]

/-- A buffer that decodes begins with the encoding of a legal state of the configuration. -/
theorem encodeState_of_decodeState {u t : State} {bs : List Byte} {n : Nat} (h : decodeState u bs = some (t, n)) :
    t.cfg = u.cfg ∧ fieldsLegal t = true ∧ encodeState t <+: bs := by
  unfold decodeState at h
  split at h
  · rename_i hget
    obtain ⟨hlegal, h⟩ := Option.ite_none_right_eq_some.1 h
    cases h
    exact ⟨(getState_some hget).1, hlegal, _, (encodeState_of_getState hget).symm⟩
  · cases h

theorem chipContents_loaded {s u : State} (hcfg : u.cfg = s.cfg) : chipContents (loaded u s) = chipContents s :=
  chipContents_of_ofBytes rfl (by rw [length_chipContents, ← hcfg]; rfl)

theorem fastContents_loaded {s u : State} (hcfg : u.cfg = s.cfg) : fastContents (loaded u s) = fastContents s :=
  fastContents_of_ofBytes rfl (by rw [length_fastContents, ← hcfg]; rfl)

theorem fieldsLegal_loaded {s u : State} (hcfg : u.cfg = s.cfg) : fieldsLegal (loaded u s) = fieldsLegal s := by
  simp only [fieldsLegal, positionLegal, loaded, hcfg]

theorem encodeState_loaded {s u : State} (hcfg : u.cfg = s.cfg) : encodeState (loaded u s) = encodeState s := by
  rw [encodeState, encodeState, chipContents_loaded hcfg, fastContents_loaded hcfg]
  simp only [loaded, hcfg]

theorem sameMachine_loaded {s u : State} (hcfg : u.cfg = s.cfg) : sameMachine s (loaded u s) :=
  ⟨rfl, rfl, rfl, rfl, rfl, rfl, rfl, rfl, rfl,
    fun _ => chipByte_of_chipContents (t := loaded u s) hcfg (chipContents_loaded hcfg),
    fun _ => fastByte_of_fastContents (t := loaded u s) hcfg (fastContents_loaded hcfg)⟩

/-- Settles O58: the readers give back what the writers put (`getState_encodeState`), which is legal because the saved
state is. -/
theorem snapshotRoundTrip : Obligations.SnapshotRoundTrip := by
  intro s u rest hs hcfg
  have hget := getState_encodeState ((inv_iff_legal s).1 hs).fits hcfg rest
  obtain ⟨-, hlegal, -⟩ := hs
  refine ⟨_, exec_snapload_of_getState hget ((fieldsLegal_loaded hcfg).trans hlegal), ?_, sameMachine_loaded hcfg, rfl,
    rfl, rfl, rfl⟩
  rw [setResult_result, encodeState_loaded hcfg]

/-- Settles O59: a buffer that decodes begins with an encoding of a legal state (`encodeState_of_decodeState`), and no
encoding is empty. -/
theorem badSnapshotChangesNothing : Obligations.BadSnapshotChangesNothing := by
  intro b u failed
  have hfailed (hbad : ∀ s : State, s.cfg = u.cfg → fieldsLegal s = true → ¬ encodeState s <+: b) : failed := by
    have hnone : decodeState u b = none := by
      rw [Option.eq_none_iff_forall_ne_some]
      rintro ⟨t, n⟩ hdecode
      obtain ⟨hcfg, hlegal, hbegins⟩ := encodeState_of_decodeState hdecode
      exact hbad t hcfg hlegal hbegins
    change execSnapload b u = _
    rw [execSnapload, hnone]
    rfl
  refine ⟨hfailed, fun hempty => hfailed fun s _ _ hbegins => encodeState_ne_nil s ?_⟩
  rw [hempty] at hbegins
  simpa using hbegins

end Sys2Proof.Machine
end
